-- ==== Sys2Proof/Word.lean ====
section
/-! DEFINITION. The bytes and words of the port link, and the small containers that give each port and each role one entry. -/

namespace Sys2Proof

/-- One byte of a frame. -/
abbrev Byte := BitVec 8

/-- One 16-bit word of a frame (R186). -/
abbrev Word := BitVec 16

/-- The four words W0..W3 that every frame carries (R187). -/
structure Words where
  w0 : Word
  w1 : Word
  w2 : Word
  w3 : Word
deriving DecidableEq, Repr

/-- The number of a port, 0..3, by its position on the part (00_scope.md, Roles and numbering). -/
inductive PortId where
  | p0 | p1 | p2 | p3
deriving DecidableEq, Repr

/-- The four roles, in role order: VEHICLE 0, ENGINE 1, MOTOR 2, BATTERY 3. -/
inductive Role where
  | vehicle | engine | motor | battery
deriving DecidableEq, Repr

/-- One entry for each port. -/
structure PerPort (α : Type) where
  p0 : α
  p1 : α
  p2 : α
  p3 : α
deriving DecidableEq, Repr

/-- One entry for each role, in role order. -/
structure PerRole (α : Type) where
  vehicle : α
  engine : α
  motor : α
  battery : α
deriving DecidableEq, Repr

/-- The entry of one port. -/
def PerPort.get {α : Type} (t : PerPort α) : PortId → α
  | .p0 => t.p0
  | .p1 => t.p1
  | .p2 => t.p2
  | .p3 => t.p3

/-- The table with one port's entry replaced. -/
def PerPort.set {α : Type} (t : PerPort α) (p : PortId) (a : α) : PerPort α :=
  match p with
  | .p0 => { t with p0 := a }
  | .p1 => { t with p1 := a }
  | .p2 => { t with p2 := a }
  | .p3 => { t with p3 := a }

/-- The same entry for every port. -/
def PerPort.all {α : Type} (a : α) : PerPort α := ⟨a, a, a, a⟩

/-- Two tables combined port by port. -/
def PerPort.zipWith {α β γ : Type} (f : α → β → γ) (t : PerPort α) (u : PerPort β) : PerPort γ :=
  ⟨f t.p0 u.p0, f t.p1 u.p1, f t.p2 u.p2, f t.p3 u.p3⟩

/-- The entry of one role. -/
def PerRole.get {α : Type} (t : PerRole α) : Role → α
  | .vehicle => t.vehicle
  | .engine => t.engine
  | .motor => t.motor
  | .battery => t.battery

/-- The table with one role's entry replaced. -/
def PerRole.set {α : Type} (t : PerRole α) (r : Role) (a : α) : PerRole α :=
  match r with
  | .vehicle => { t with vehicle := a }
  | .engine => { t with engine := a }
  | .motor => { t with motor := a }
  | .battery => { t with battery := a }

/-- The same entry for every role. -/
def PerRole.all {α : Type} (a : α) : PerRole α := ⟨a, a, a, a⟩

/-- A table changed role by role. -/
def PerRole.map {α β : Type} (f : α → β) (t : PerRole α) : PerRole β :=
  ⟨f t.vehicle, f t.engine, f t.motor, f t.battery⟩

/-- A role's number in role order. -/
def Role.code : Role → Nat
  | .vehicle => 0
  | .engine => 1
  | .motor => 2
  | .battery => 3

end Sys2Proof
end

