-- ==== Sys2Proof/Syntax.lean ====
section
/-! DEFINITION. The commands the part takes: one constructor for each row of spec/opcode_table.json. -/

namespace Sys2Proof

/-- The levels of one port's two strap pins ROLEn_1 and ROLEn_0 (R194); true is a high level. -/
structure StrapPins where
  hi : Bool
  lo : Bool
deriving DecidableEq, Repr

/-- The frame kinds of R188. -/
inductive FrameKind where
  | nop
  | identify
  | vehicleReport
  | engineReport
  | motorReport
  | batteryReport
  | declareVehicle
  | declareEngine
  | declareMotor
  | declareBattery
  | readGrant
  | readSplit
  | readStatus
  | readNotices
  | clearNotices
  | setNoticeEnable
  | claim
  | release
  | loadRow
  | commit
  | readRow
deriving DecidableEq, Repr

/-- The commands. A request command is the completion, on port `p`, of a frame of its kind that carried exactly
88 bits and a good CRC, with its tag byte and its four words. -/
inductive Instr where
  /-- RST_N_ASSERTED: RST_N has been low for at least 1 µs (R192). -/
  | rstNAsserted
  /-- RST_N_RELEASED: RST_N rises, with the strap pins, the SPD pin (true: high) and, for each port, whether PSEL is low (R193). -/
  | rstNReleased (straps : PerPort StrapPins) (spd : Bool) (pselLow : PerPort Bool)
  /-- RESET_PSEL_WAIT_END: PSEL of a port that was low at the release rises (R197). -/
  | resetPselWaitEnd (p : PortId)
  /-- FRAME_BEGIN: PSEL of a port falls (R175). -/
  | frameBegin (p : PortId)
  /-- FRAME_REFUSED: PSEL rises on a frame that carried these whole bytes and then these bits of an unfinished byte (R176). -/
  | frameRefused (p : PortId) (bytes : List Byte) (extra : List Bool)
  /-- NOP (R183). -/
  | nop (p : PortId) (tag : Byte) (w : Words)
  /-- IDENTIFY (R183). -/
  | identify (p : PortId) (tag : Byte) (w : Words)
  /-- VEHICLE_REPORT (R3). -/
  | vehicleReport (p : PortId) (tag : Byte) (w : Words)
  /-- ENGINE_REPORT (R3). -/
  | engineReport (p : PortId) (tag : Byte) (w : Words)
  /-- MOTOR_REPORT (R3). -/
  | motorReport (p : PortId) (tag : Byte) (w : Words)
  /-- BATTERY_REPORT (R3). -/
  | batteryReport (p : PortId) (tag : Byte) (w : Words)
  /-- DECLARE_VEHICLE (R26). -/
  | declareVehicle (p : PortId) (tag : Byte) (w : Words)
  /-- DECLARE_ENGINE (R26). -/
  | declareEngine (p : PortId) (tag : Byte) (w : Words)
  /-- DECLARE_MOTOR (R26). -/
  | declareMotor (p : PortId) (tag : Byte) (w : Words)
  /-- DECLARE_BATTERY (R26). -/
  | declareBattery (p : PortId) (tag : Byte) (w : Words)
  /-- READ_GRANT (R134). -/
  | readGrant (p : PortId) (tag : Byte) (w : Words)
  /-- READ_SPLIT (R137). -/
  | readSplit (p : PortId) (tag : Byte) (w : Words)
  /-- READ_STATUS (R184). -/
  | readStatus (p : PortId) (tag : Byte) (w : Words)
  /-- READ_NOTICES (R166). -/
  | readNotices (p : PortId) (tag : Byte) (w : Words)
  /-- CLEAR_NOTICES (R167). -/
  | clearNotices (p : PortId) (tag : Byte) (w : Words)
  /-- SET_NOTICE_ENABLE (R168). -/
  | setNoticeEnable (p : PortId) (tag : Byte) (w : Words)
  /-- CLAIM (R145). -/
  | claim (p : PortId) (tag : Byte) (w : Words)
  /-- RELEASE (R146). -/
  | release (p : PortId) (tag : Byte) (w : Words)
  /-- LOAD_ROW (R149). -/
  | loadRow (p : PortId) (tag : Byte) (w : Words)
  /-- COMMIT (R152). -/
  | commit (p : PortId) (tag : Byte) (w : Words)
  /-- READ_ROW (R151). -/
  | readRow (p : PortId) (tag : Byte) (w : Words)
  /-- PERIOD_BOUNDARY: the period timer expires (R99), with the present level of the SPD pin (R43). -/
  | periodBoundary (spd : Bool)
  /-- SNAPSHOT: SRC's stage (R17). -/
  | snapshot
  /-- FRESHNESS_EXPIRY of one source (R11). -/
  | freshnessExpiry (r : Role)
  /-- HOLD_EXPIRY of one source (R12). -/
  | holdExpiry (r : Role)
  /-- REQUALIFY_EXPIRY of one source (R13). -/
  | requalifyExpiry (r : Role)
  /-- SPD_SAMPLE: one 64 kHz sample of the SPD pin at this level (R38). -/
  | spdSample (level : Bool)
  /-- SPEED_UNIT_STAGE (R42). -/
  | speedUnitStage
  /-- MODE_DECISION (R52). -/
  | modeDecision
  /-- SEQUENCER_STAGE (R79). -/
  | sequencerStage
  /-- CRANK_TIMEOUT (R82). -/
  | crankTimeout
  /-- SYNC_TIMEOUT (R83). -/
  | syncTimeout
  /-- CLUTCH_TIMEOUT (R84). -/
  | clutchTimeout
  /-- RELEASE_TIMEOUT (R91). -/
  | releaseTimeout
  /-- OFF_TIMEOUT (R92). -/
  | offTimeout
  /-- COOL_OFF_END (R87). -/
  | coolOffEnd
  /-- SPLIT_STAGE (R103). -/
  | splitStage
  /-- PUBLICATION (R129). -/
  | publication
  /-- EPOCH_PULSE_END (R131). -/
  | epochPulseEnd
deriving DecidableEq, Repr

/-- The request command that a good frame of a kind is. -/
def FrameKind.command (k : FrameKind) (p : PortId) (tag : Byte) (w : Words) : Instr :=
  match k with
  | .nop => .nop p tag w
  | .identify => .identify p tag w
  | .vehicleReport => .vehicleReport p tag w
  | .engineReport => .engineReport p tag w
  | .motorReport => .motorReport p tag w
  | .batteryReport => .batteryReport p tag w
  | .declareVehicle => .declareVehicle p tag w
  | .declareEngine => .declareEngine p tag w
  | .declareMotor => .declareMotor p tag w
  | .declareBattery => .declareBattery p tag w
  | .readGrant => .readGrant p tag w
  | .readSplit => .readSplit p tag w
  | .readStatus => .readStatus p tag w
  | .readNotices => .readNotices p tag w
  | .clearNotices => .clearNotices p tag w
  | .setNoticeEnable => .setNoticeEnable p tag w
  | .claim => .claim p tag w
  | .release => .release p tag w
  | .loadRow => .loadRow p tag w
  | .commit => .commit p tag w
  | .readRow => .readRow p tag w

end Sys2Proof
end

