-- ==== Sys2Proof/Decode.lean ====
section
/-! DEFINITION. The frame format of the port link: the kind codes of R188, the CRC-8 of R178, the eleven bytes of R187,
the checks of R176 that need the frame alone, and `decodeTableWord`. -/

namespace Sys2Proof

/-- The code that byte 0 of a request frame of a kind carries (R188). -/
def FrameKind.code : FrameKind → Byte
  | .nop => 0x01
  | .identify => 0x02
  | .vehicleReport => 0x11
  | .engineReport => 0x12
  | .motorReport => 0x13
  | .batteryReport => 0x14
  | .declareVehicle => 0x21
  | .declareEngine => 0x22
  | .declareMotor => 0x23
  | .declareBattery => 0x24
  | .readGrant => 0x30
  | .readSplit => 0x31
  | .readStatus => 0x32
  | .readNotices => 0x40
  | .clearNotices => 0x41
  | .setNoticeEnable => 0x42
  | .claim => 0x50
  | .release => 0x51
  | .loadRow => 0x52
  | .commit => 0x53
  | .readRow => 0x54

/-- The frame kinds, in the order of the table of R188. -/
def frameKinds : List FrameKind :=
  [.nop, .identify, .vehicleReport, .engineReport, .motorReport, .batteryReport, .declareVehicle, .declareEngine,
   .declareMotor, .declareBattery, .readGrant, .readSplit, .readStatus, .readNotices, .clearNotices, .setNoticeEnable,
   .claim, .release, .loadRow, .commit, .readRow]

/-- The kind whose code a byte is, or none where the byte is no frame kind (R176, check 4). -/
def kindOfCode (b : Byte) : Option FrameKind := frameKinds.find? (fun k => k.code == b)

/-- The bits of a byte, most significant bit first (R175). -/
def byteBits (b : Byte) : List Bool :=
  [b.getLsbD 7, b.getLsbD 6, b.getLsbD 5, b.getLsbD 4, b.getLsbD 3, b.getLsbD 2, b.getLsbD 1, b.getLsbD 0]

/-- The byte whose bits, most significant bit first, begin a list; missing bits read as 0. -/
def byteOfBits (l : List Bool) : Byte :=
  (l.take 8).foldl (fun a b => (a <<< 1) ||| (if b then 1 else 0)) 0

/-- The bits of a list of bytes in the order they travel (R175). -/
def bytesBits (bs : List Byte) : List Bool := bs.flatMap byteBits

/-- Byte `n` of a bit stream. -/
def byteAt (bits : List Bool) (n : Nat) : Byte := byteOfBits (bits.drop (8 * n))

/-- The word in bytes `n` and `n + 1` of a bit stream, most significant byte first (R186). -/
def wordAt (bits : List Bool) (n : Nat) : Word := byteAt bits n ++ byteAt bits (n + 1)

/-- The two bytes of a word, most significant byte first (R186). -/
def wordBytes (w : Word) : List Byte := [w.extractLsb' 8 8, w.extractLsb' 0 8]

/-- The bytes of four words in the order of R187. -/
def wordsBytes (w : Words) : List Byte := wordBytes w.w0 ++ wordBytes w.w1 ++ wordBytes w.w2 ++ wordBytes w.w3

/-- One bit through the CRC register, generator x⁸ + x⁴ + x³ + x² + 1 (R178). -/
def crcStep (r : Byte) (b : Bool) : Byte :=
  if r.getLsbD 7 == b then r <<< 1 else (r <<< 1) ^^^ 0x1D

/-- The CRC-8 of a list of bytes: register at all ones, inverted at the end (R178). -/
def crc8 (bs : List Byte) : Byte := ~~~ ((bytesBits bs).foldl crcStep 0xFF)

/-- Eleven bytes: code, tag, four words and the CRC-8 of the ten bytes before it (R187). -/
def frameBytes (code tag : Byte) (w : Words) : List Byte :=
  let body := [code, tag] ++ wordsBytes w
  body ++ [crc8 body]

/-- The 88 bits of a request frame of a kind, as they travel (R187, R188). -/
def requestBits (k : FrameKind) (tag : Byte) (w : Words) : List Bool := bytesBits (frameBytes k.code tag w)

/-- What checks 2 to 4 of R176 find in the bits a frame carried. -/
inductive FrameVerdict where
  | lengthError
  | crcError
  | unknownKind
  | good (k : FrameKind) (tag : Byte) (w : Words)
deriving DecidableEq, Repr

/-- Checks 2, 3 and 4 of R176, in that order: exactly 88 bits (R177), byte 10 the CRC-8 of bytes 0 to 9 (R178), byte 0 a
frame kind (R179). -/
def checkFrame (bits : List Bool) : FrameVerdict :=
  if bits.length = 88 then
    if byteAt bits 10 = crc8 ((List.range 10).map (byteAt bits)) then
      match kindOfCode (byteAt bits 0) with
      | some k => .good k (byteAt bits 1) ⟨wordAt bits 2, wordAt bits 4, wordAt bits 6, wordAt bits 8⟩
      | none => .unknownKind
    else .crcError
  else .lengthError

/-- The tag of a refusal's answer: byte 1 when it arrived whole, else 0 (R176, R177, R182). -/
def refusalTag (bits : List Bool) : Byte := if 16 ≤ bits.length then byteAt bits 1 else 0

/-- The bits of a FRAME_REFUSED command's operands. -/
def refusedBits (bytes : List Byte) (extra : List Bool) : List Bool := bytesBits bytes ++ extra

/-- The command that a table word spells. No row of spec/opcode_table.json gives bits (each row's `fields` is empty and none
has `fixed`), so no word spells a command (log 14). -/
def decodeTableWord (_nbits _w : Nat) : Option Instr := none

end Sys2Proof
end

