-- ==== Sys2Proof/Config.lean ====
section
/-! DEFINITION. What is fixed for every 3260: its part code and revision and the lengths its clocks count.
The spec leaves no result of any rule undefined, so there is no free value here. -/

namespace Sys2Proof

/-- The part code that IDENTIFY carries (R183). -/
def Config.partCode : Word := 0x3260

/-- The revision that IDENTIFY carries (R183). -/
def Config.revision : Word := 0x0100

/-- The capacities word that IDENTIFY carries: 12, 6 and 27 rows (R183). -/
def Config.capacities : Word := 0xC61B

/-- The reload value of the period timer, in REFCLK cycles (R196). -/
def Config.periodReload : Nat := 80000

/-- REFCLK cycles between two samples of the SPD pin: 8 MHz over 64 kHz (chapter 3.2). -/
def Config.sampleReload : Nat := 125

/-- REFCLK cycles of the 20 µs EPOCH pulse at 8 MHz (R131). -/
def Config.epochPulse : Nat := 160

end Sys2Proof
end

