-- ==== Sys2Proof/Machine/Tables.lean ====
section
/-! DEFINITION. The calibration set: its three tables, the built-in defaults of R142 and R143, and the row names the other
blocks use. -/

namespace Sys2Proof.Machine

/-- One row of table 0 or table 1: the breakpoint and the torque or offset (R142). -/
structure Row where
  x : Int
  y : Int
deriving DecidableEq, Repr

/-- A calibration set: table 0 (the engine operating line), table 1 (the charge offset curve), table 2 (the thresholds)
(R142, R143). Values are stored as sent (R150), so each is an integer of 16 signed bits. -/
structure CalSet where
  line : Vector Row 12
  offset : Vector Row 6
  thr : Vector Int 27
deriving DecidableEq, Repr

/-- The built-in engine operating line (R142). -/
def defaultLine : Vector Row 12 :=
  #v[⟨800, 60⟩, ⟨1000, 80⟩, ⟨1250, 100⟩, ⟨1500, 120⟩, ⟨1750, 135⟩, ⟨2000, 150⟩, ⟨2250, 160⟩, ⟨2500, 170⟩, ⟨3000, 175⟩,
     ⟨3500, 175⟩, ⟨4000, 170⟩, ⟨4500, 160⟩]

/-- The built-in charge offset curve (R142). -/
def defaultOffset : Vector Row 6 := #v[⟨0, 60⟩, ⟨200, 60⟩, ⟨300, 40⟩, ⟨400, 20⟩, ⟨450, 0⟩, ⟨1000, 0⟩]

/-- The built-in thresholds, rows 0 to 26 (R143). -/
def defaultThr : Vector Int 27 :=
  #v[150, 300, 350, 450, 600, 4500, 300, 900, 20, 500, 300, 500, 920, 5, 2, 150, 200, 100, 5, 100, 100, 200, 4, 60, 0, 50, 10]

/-- The built-in defaults (R141). -/
def CalSet.defaults : CalSet := ⟨defaultLine, defaultOffset, defaultThr⟩

/-- Row 0, SoC reserve (R143). -/
def CalSet.socReserve (c : CalSet) : Int := c.thr[0]
/-- Row 1, SoC start (R143). -/
def CalSet.socStart (c : CalSet) : Int := c.thr[1]
/-- Row 2, SoC charge-on (R143). -/
def CalSet.chargeOn (c : CalSet) : Int := c.thr[2]
/-- Row 3, SoC charge-off (R143). -/
def CalSet.chargeOff (c : CalSet) : Int := c.thr[3]
/-- Row 4, SoC stop (R143). -/
def CalSet.socStop (c : CalSet) : Int := c.thr[4]
/-- Row 5, electric speed ceiling (R143). -/
def CalSet.ceiling (c : CalSet) : Int := c.thr[5]
/-- Row 6, ceiling hysteresis (R143). -/
def CalSet.ceilingHyst (c : CalSet) : Int := c.thr[6]
/-- Row 7, start fraction (R143). -/
def CalSet.startFraction (c : CalSet) : Int := c.thr[7]
/-- Row 8, start dwell (R143). -/
def CalSet.startDwell (c : CalSet) : Nat := c.thr[8].toNat
/-- Row 9, stop fraction (R143). -/
def CalSet.stopFraction (c : CalSet) : Int := c.thr[9]
/-- Row 10, stop dwell (R143). -/
def CalSet.stopDwell (c : CalSet) : Nat := c.thr[10].toNat
/-- Row 11, speed floor N_FLOOR (R143). -/
def CalSet.nFloor (c : CalSet) : Int := c.thr[11]
/-- Row 12, motor efficiency η (R143). -/
def CalSet.eta (c : CalSet) : Int := c.thr[12]
/-- Row 13, hold periods H (R143). -/
def CalSet.holdPeriods (c : CalSet) : Nat := c.thr[13].toNat
/-- Row 14, retry limit (R143). -/
def CalSet.retryLimit (c : CalSet) : Nat := c.thr[14].toNat
/-- Row 15, crank timeout (R143). -/
def CalSet.crankTimeout (c : CalSet) : Nat := c.thr[15].toNat
/-- Row 16, sync timeout (R143). -/
def CalSet.syncTimeout (c : CalSet) : Nat := c.thr[16].toNat
/-- Row 17, sync band (R143). -/
def CalSet.syncBand (c : CalSet) : Int := c.thr[17]
/-- Row 18, sync dwell (R143). -/
def CalSet.syncDwell (c : CalSet) : Nat := c.thr[18].toNat
/-- Row 19, clutch timeout (R143). -/
def CalSet.clutchTimeout (c : CalSet) : Nat := c.thr[19].toNat
/-- Row 20, cool-off (R143). -/
def CalSet.coolOff (c : CalSet) : Nat := c.thr[20].toNat
/-- Row 21, off timeout (R143). -/
def CalSet.offTimeout (c : CalSet) : Nat := c.thr[21].toNat
/-- Row 22, speed window W (R143). -/
def CalSet.window (c : CalSet) : Nat := c.thr[22].toNat
/-- Row 23, teeth (R143). -/
def CalSet.teeth (c : CalSet) : Nat := c.thr[23].toNat
/-- Row 24, pulse options (R143). -/
def CalSet.pulseOptions (c : CalSet) : Int := c.thr[24]
/-- Row 25, shortfall dwell (R143). -/
def CalSet.shortfallDwell (c : CalSet) : Nat := c.thr[25].toNat
/-- Row 26, plausibility dwell D (R143). -/
def CalSet.plausDwell (c : CalSet) : Nat := c.thr[26].toNat

/-- Pulse options 1 and 3 count rising edges, 0 and 2 falling edges (R143). -/
def CalSet.countsRising (c : CalSet) : Bool := c.pulseOptions == 1 || c.pulseOptions == 3

/-- Pulse options 0 and 1 have the noise rejector on, 2 and 3 off (R143). -/
def CalSet.rejectorOn (c : CalSet) : Bool := c.pulseOptions == 0 || c.pulseOptions == 1

end Sys2Proof.Machine
end

