-- ==== Sys2Proof/Machine/State.lean ====
section
/-! DEFINITION. The state of the 3260, block by block, as plain data; its value after reset; what may stop a step. -/

namespace Sys2Proof.Machine

/-! ### Values that several blocks name -/

/-- The four freshness states (R1). -/
inductive Freshness where
  | undeclared | fresh | aged | lapsed
deriving DecidableEq, Repr

/-- The engine state field of an engine report (R4). -/
inductive EngineState where
  | off | cranking | running | fault
deriving DecidableEq, Repr

/-- The clutch state field of an engine report: OPEN, SLIPPING, CLOSED (R4). -/
inductive ClutchState where
  | opened | slipping | closed
deriving DecidableEq, Repr

/-- The eight driveline modes (R51), in the order of R186. -/
inductive Mode where
  | init | parked | electric | starting | hybrid | charge | stopping | safe
deriving DecidableEq, Repr

/-- The eight sequencer states (R77). -/
inductive SeqState where
  | off | crankWait | speedSync | clutchWait | coupled | unload | clutchRelease | offWait
deriving DecidableEq, Repr

/-- Engine availability (R77). -/
inductive Avail where
  | available | cooling | unavailable
deriving DecidableEq, Repr

/-- Cause of the last failure or loss of availability (R77). -/
inductive LastReason where
  | none | crankTimeout | syncTimeout | clutchTimeout | fault | releaseTimeout | offTimeout
deriving DecidableEq, Repr

/-- The engine command of a record (R78, R128). -/
inductive EngineCmd where
  | off | start | sync | run | stop
deriving DecidableEq, Repr

/-- The clutch command of a record: OPEN, CLOSE (R78, R128). -/
inductive ClutchCmd where
  | opened | close
deriving DecidableEq, Repr

/-- Where the active calibration set came from (R141). -/
inductive Origin where
  | default | loaded
deriving DecidableEq, Repr

/-- Cause of the last commit that did not become active (R141). -/
inductive Rejection where
  | none | orderT0 | rangeT0 | orderT1 | rangeT1 | rangeT2 | thresholds | claimLost
deriving DecidableEq, Repr

/-- The results of R189. -/
inductive ResultCode where
  | ok | okClamped | accepted | none | crcError | lengthError | unknownKind | roleMismatch | wrongMode | undeclared
  | badArgument | held | notHolder | noClaim | busy | portDisabled
deriving DecidableEq, Repr

/-! ### Sources and envelopes -/

/-- The state, counters and flags of one source record (R1). -/
structure SourceCtl where
  state : Freshness
  fresh : Nat
  hold : Nat
  requal : Nat
  counted : Bool
  clipped : Bool
deriving DecidableEq, Repr

/-- The held values of the vehicle record; its fourth value is always 0 (R4, Note 1). -/
structure VehicleValues where
  drive : Bool
  zone : Bool
  demand : Int
  regenCap : Int
deriving DecidableEq, Repr

/-- The held values of the engine record (R4). -/
structure EngineValues where
  state : EngineState
  clutch : ClutchState
  warm : Bool
  force : Bool
  ready : Bool
  maxTorque : Int
  drag : Int
  speed : Int
deriving DecidableEq, Repr

/-- The held values of the motor record (R4). -/
structure MotorValues where
  derating : Bool
  motoring : Int
  generating : Int
  speed : Int
deriving DecidableEq, Repr

/-- The held values of the battery record (R4). -/
structure BatteryValues where
  soc : Int
  pdis : Int
  pchg : Int
  paux : Int
deriving DecidableEq, Repr

/-- The held values of the four records (R1). -/
structure Held where
  vehicle : VehicleValues
  engine : EngineValues
  motor : MotorValues
  battery : BatteryValues
deriving DecidableEq, Repr

/-- One envelope record, E0..E3 (R24). -/
structure Envelope where
  e0 : Int
  e1 : Int
  e2 : Int
  e3 : Int
deriving DecidableEq, Repr

/-- The motor's values in a snapshot; the speed is absent while the source is LAPSED (R19). -/
structure MotorSnap where
  derating : Bool
  motoring : Int
  generating : Int
  speed : Option Int
deriving DecidableEq, Repr

/-- The snapshot (R17). An UNDECLARED source stands in it as LAPSED (R22). -/
structure Snapshot where
  state : PerRole Freshness
  vehicle : VehicleValues
  engine : EngineValues
  motor : MotorSnap
  battery : BatteryValues
deriving DecidableEq, Repr

/-! ### Speed unit, mode controller, sequencer -/

/-- The check state of the speed unit (R37). -/
inductive Check where
  | plausible | implausible
deriving DecidableEq, Repr

/-- The speed unit (R37). `boundaryCount` is the model's own: the count that the last boundary cleared, kept for the ring
until the unit's stage (R40, R41; log 10). -/
structure Spd where
  filtered : Bool
  candidate : Nat
  count : Nat
  boundaryCount : Nat
  ring : List Nat
  nPulse : Int
  check : Check
  disagree : Nat
  agree : Nat
  absent : Bool
  nMotorUsed : Int
  nSel : Int
  nEff : Int
deriving DecidableEq, Repr

/-- Stop kind (R51). -/
inductive StopKind where
  | none | dwell | immediate
deriving DecidableEq, Repr

/-- Stop destination (R51). -/
inductive StopDest where
  | none | electric | parked
deriving DecidableEq, Repr

/-- The mode controller (R51). -/
structure ModeCtl where
  mode : Mode
  stopKind : StopKind
  stopDest : StopDest
  startRun : Nat
  stopRun : Nat
  zoneOverruled : Bool
  overrideConflict : Bool
  electricPath : Bool
deriving DecidableEq, Repr

/-- The requests MODE may hand to SEQ (R52). -/
inductive Request where
  | start | abandon | stopUnload | stopNoUnload | cancel
deriving DecidableEq, Repr

/-- The engine sequencer (R77). `spent` is the model's own: how many periods the wait timer has counted off since the wait
began, which is the time already spent that R96 and R156 speak of (log 23). -/
structure Seq where
  state : SeqState
  avail : Avail
  attempts : Nat
  lastReason : LastReason
  timer : Nat
  syncRun : Nat
  coolOff : Nat
  failurePending : Bool
  spent : Nat
deriving DecidableEq, Repr

/-! ### Split engine and record store -/

/-- The split engine's state (R102). -/
structure SplitCtl where
  prevTd : Int
  prevTe : Int
  prevTm : Int
  shortfallRun : Nat
  armed : Bool
deriving DecidableEq, Repr

/-- What SPLIT hands REC at the end of its stage (R125). -/
structure SplitOut where
  td : Int
  te : Int
  tm : Int
  tb : Int
  tu : Int
  tmHi : Int
  tmLo : Int
  teHi : Int
  teLo : Int
  pBatt : Int
  motorTerm : Int
  nSel : Int
deriving DecidableEq, Repr

/-- The split record (R128). The epoch counts modulo 65536 (R130), so it is a 16-bit word. -/
structure SplitRecord where
  epoch : Word
  mode : Mode
  seqState : SeqState
  engineCmd : EngineCmd
  clutchCmd : ClutchCmd
  electricAvail : Bool
  engineAvail : Avail
  derating : Bool
  origin : Origin
  td : Int
  te : Int
  tm : Int
  tb : Int
  tu : Int
  tmHi : Int
  tmLo : Int
  teHi : Int
  teLo : Int
  nSel : Int
  pBatt : Int
  motorTerm : Int
deriving DecidableEq, Repr

/-- The stage that comes next in the split operation, or idle between two operations (R99). Stage 1 is part of the boundary. -/
inductive Stage where
  | idle | src | spd | mode | seq | split | publish
deriving DecidableEq, Repr

/-! ### Calibration store, notices, ports -/

/-- A held claim: its holder, the staging set, and whether a commit is pending. The staging set exists exactly while the
claim is held, and a commit is pending only then (R141, Note 1; log 19). -/
structure Claim where
  holder : PortId
  staging : CalSet
  pending : Bool
deriving DecidableEq, Repr

/-- The calibration store (R141). -/
structure Cal where
  active : CalSet
  claim : Option Claim
  origin : Origin
  commitCount : Nat
  lastRejection : Rejection
deriving DecidableEq, Repr

/-- The stored notice sets of one port, kind code n in bit n (R162, R186). -/
structure Notices where
  raw : Word
  rep : Word
  enable : Word
deriving DecidableEq, Repr

/-- A response: result, tag and four words (R174, R187). -/
structure Response where
  result : ResultCode
  tag : Byte
  words : Words
deriving DecidableEq, Repr

/-- One port interface unit (R174). `pselWait` and `inFrame` are what R197 and R175 say of PSEL; `sent` is the model's own:
the bits that the latest completed frame shifted out (R181; log 4). -/
structure Port where
  role : Role
  disabled : Bool
  pselWait : Bool
  inFrame : Bool
  rx : List Bool
  rxCount : Nat
  txPos : Nat
  held : Response
  page : SplitRecord
  sent : List Bool
deriving DecidableEq, Repr

/-! ### The whole machine -/

/-- The state of the part. -/
structure State where
  rstN : Bool
  spdPin : Bool
  epochPin : Bool
  epochTimer : Nat
  tmr : Nat
  sampleDiv : Nat
  ports : PerPort Port
  src : PerRole SourceCtl
  heldVals : Held
  snap : Snapshot
  snapDone : PerRole Bool
  env : PerRole Envelope
  envCopy : PerRole Envelope
  spd : Spd
  modeCtl : ModeCtl
  request : Option Request
  seq : Seq
  split : SplitCtl
  splitOut : SplitOut
  stage : Stage
  record : SplitRecord
  cal : Cal
  ntc : PerPort Notices
  pending : List Instr
deriving DecidableEq, Repr

/-- What stops the machine with a fault: nothing. No rule of the spec ends the part's operation; a wrong frame or request is
answered (R176, R189). Nobody raises a fault, which is safe: no behaviour of the part is cut off (log 20). -/
inductive Fault where
deriving DecidableEq, Repr

/-- Why a command is refused. -/
inductive Refusal where
  /-- Raised by `exec`'s arm of a command that has no meaning yet; no arm uses it. Safe: such a command would stop. -/
  | notModelled (mnemonic : String)
deriving DecidableEq, Repr

/-- The outcome of a command. -/
abbrev Outcome := Host.Outcome State Fault Refusal

/-! ### Values after reset -/

/-- Four words of 0. -/
def zeroWords : Words := ⟨0, 0, 0, 0⟩

/-- The reset record (R128). -/
def SplitRecord.reset : SplitRecord :=
  { epoch := 0, mode := .init, seqState := .off, engineCmd := .off, clutchCmd := .opened, electricAvail := false
    engineAvail := .available, derating := false, origin := .default, td := 0, te := 0, tm := 0, tb := 0, tu := 0
    tmHi := 0, tmLo := 0, teHi := 0, teLo := 0, nSel := 0, pBatt := 0, motorTerm := 0 }

/-- A source record after reset (R1). -/
def SourceCtl.reset : SourceCtl :=
  { state := .undeclared, fresh := 0, hold := 0, requal := 0, counted := false, clipped := false }

/-- The held values after reset: all 0 (R1). -/
def Held.reset : Held :=
  { vehicle := ⟨false, false, 0, 0⟩
    engine := ⟨.off, .opened, false, false, false, 0, 0, 0⟩
    motor := ⟨false, 0, 0, 0⟩
    battery := ⟨0, 0, 0, 0⟩ }

/-- The substitutes of R19 for a lapsed engine source. -/
def EngineValues.substitute : EngineValues := ⟨.fault, .opened, false, false, false, 0, 0, 0⟩

/-- The substitutes of R19 for a lapsed motor source. -/
def MotorSnap.substitute : MotorSnap := ⟨false, 0, 0, none⟩

/-- The snapshot after reset: every source LAPSED with its substitutes (R2, R22). -/
def Snapshot.reset : Snapshot :=
  { state := .all .lapsed, vehicle := ⟨false, false, 0, 0⟩, engine := .substitute, motor := .substitute, battery := ⟨0, 0, 0, 0⟩ }

/-- An envelope after reset (R24). -/
def Envelope.reset : Envelope := ⟨0, 0, 0, 0⟩

/-- The speed unit after reset; the filtered level is the pin's level at the release (R37). -/
def Spd.reset (level : Bool) : Spd :=
  { filtered := level, candidate := 0, count := 0, boundaryCount := 0, ring := [0, 0, 0, 0, 0, 0, 0, 0], nPulse := 0
    check := .plausible, disagree := 0, agree := 0, absent := true, nMotorUsed := 0, nSel := 0, nEff := 500 }

/-- The mode controller after reset (R51). -/
def ModeCtl.reset : ModeCtl :=
  { mode := .init, stopKind := .none, stopDest := .none, startRun := 0, stopRun := 0, zoneOverruled := false
    overrideConflict := false, electricPath := false }

/-- The sequencer after reset (R77). -/
def Seq.reset : Seq :=
  { state := .off, avail := .available, attempts := 0, lastReason := .none, timer := 0, syncRun := 0, coolOff := 0
    failurePending := false, spent := 0 }

/-- The split engine after reset (R102). -/
def SplitCtl.reset : SplitCtl := { prevTd := 0, prevTe := 0, prevTm := 0, shortfallRun := 0, armed := true }

/-- No results handed over. -/
def SplitOut.reset : SplitOut := ⟨0, 0, 0, 0, 0, 0, 0, 0, 0, 0, 0, 0⟩

/-- The calibration store after reset (R141). -/
def Cal.reset : Cal :=
  { active := .defaults, claim := none, origin := .default, commitCount := 0, lastRejection := .none }

/-- A port's notice sets after reset (R162). -/
def Notices.reset : Notices := ⟨0, 0, 0xFFFF⟩

/-- The held response after reset (R174). -/
def Response.reset : Response := ⟨.none, 0, zeroWords⟩

/-- A port after reset, with the role, the disabled flag and the PSEL wait that the release gave it (R174, R194, R197). -/
def Port.reset (role : Role) (disabled wait : Bool) : Port :=
  { role := role, disabled := disabled, pselWait := wait, inFrame := false, rx := [], rxCount := 0, txPos := 0
    held := .reset, page := .reset, sent := [] }

/-- The part just after RST_N has been released, with every block at the value of its "After reset" column (R192, R193).
The spec leaves the straps, the SPD level and the PSEL levels to the board: here port n has role n in role order, SPD is
low and PSEL is high on every port. DESIGN CHOICE, unsafe (log 1). -/
def State.reset : State :=
  { rstN := true, spdPin := false, epochPin := false, epochTimer := 0, tmr := Config.periodReload
    sampleDiv := Config.sampleReload
    ports := ⟨.reset .vehicle false false, .reset .engine false false, .reset .motor false false, .reset .battery false false⟩
    src := .all .reset, heldVals := .reset, snap := .reset, snapDone := .all false
    env := .all .reset, envCopy := .all .reset, spd := .reset false, modeCtl := .reset, request := none, seq := .reset
    split := .reset, splitOut := .reset, stage := .idle, record := .reset, cal := .reset, ntc := .all .reset, pending := [] }

end Sys2Proof.Machine
end

