-- ==== Sys2Proof/Machine/Flags.lean ====
section
/-! DEFINITION. The notice kinds and the three sets of a port (chapter 9); the enumerations as numbers and the packed words
that responses carry (R186, R189, R190). -/

namespace Sys2Proof.Machine

/-! ### Notices -/

/-- The sixteen notice kinds (R161). -/
inductive NoticeKind where
  | sourceChanged | modeChanged | startFailed | engineUnavailable | engineRestored | speedCheckChanged | startAbandoned
  | calCommitted | calRejected | claimLost | roleMismatch | frameError | shortfall | overrideConflict | zoneOverruled
  | envelopeChanged
deriving DecidableEq, Repr

/-- A kind's code, which is its bit in a set of kinds (R161, R186). -/
def NoticeKind.code : NoticeKind → Nat
  | .sourceChanged => 0
  | .modeChanged => 1
  | .startFailed => 2
  | .engineUnavailable => 3
  | .engineRestored => 4
  | .speedCheckChanged => 5
  | .startAbandoned => 6
  | .calCommitted => 7
  | .calRejected => 8
  | .claimLost => 9
  | .roleMismatch => 10
  | .frameError => 11
  | .shortfall => 12
  | .overrideConflict => 13
  | .zoneOverruled => 14
  | .envelopeChanged => 15

/-- The set that holds one kind alone. -/
def NoticeKind.bit (k : NoticeKind) : Word := (1 : Word) <<< k.code

/-- Raising a kind on a port: it joins the raw set, or, if already raw, the repeat set (R163). -/
def Notices.raise (k : NoticeKind) (n : Notices) : Notices :=
  if n.raw.getLsbD k.code then { n with rep := n.rep ||| k.bit } else { n with raw := n.raw ||| k.bit }

/-- The pending set: raw and enabled (R162, R165). -/
def Notices.pendingSet (n : Notices) : Word := n.raw &&& n.enable

/-- Removing the kinds of a mask from the raw and the repeat set (R167). -/
def Notices.clear (mask : Word) (n : Notices) : Notices := { n with raw := n.raw &&& ~~~mask, rep := n.rep &&& ~~~mask }

/-- ATTN_N of a port is asserted (driven low): RST_N is high and the pending set is not empty (R165). -/
def State.attn (s : State) (p : PortId) : Bool := s.rstN && (s.ntc.get p).pendingSet != 0

/-! ### Enumerations as numbers (R186, R189) -/

/-- The result codes of R189. -/
def ResultCode.code : ResultCode → Byte
  | .ok => 0x00
  | .okClamped => 0x01
  | .accepted => 0x02
  | .none => 0x80
  | .crcError => 0x81
  | .lengthError => 0x82
  | .unknownKind => 0x83
  | .roleMismatch => 0x84
  | .wrongMode => 0x85
  | .undeclared => 0x86
  | .badArgument => 0x87
  | .held => 0x88
  | .notHolder => 0x89
  | .noClaim => 0x8A
  | .busy => 0x8B
  | .portDisabled => 0x8C

/-- The modes in the order of R186. -/
def Mode.code : Mode → Nat
  | .init => 0
  | .parked => 1
  | .electric => 2
  | .starting => 3
  | .hybrid => 4
  | .charge => 5
  | .stopping => 6
  | .safe => 7

/-- The sequencer states in the order of R77. -/
def SeqState.code : SeqState → Nat
  | .off => 0
  | .crankWait => 1
  | .speedSync => 2
  | .clutchWait => 3
  | .coupled => 4
  | .unload => 5
  | .clutchRelease => 6
  | .offWait => 7

/-- Engine availability in the order of R77. -/
def Avail.code : Avail → Nat
  | .available => 0
  | .cooling => 1
  | .unavailable => 2

/-- The last reasons in the order of R77. -/
def LastReason.code : LastReason → Nat
  | .none => 0
  | .crankTimeout => 1
  | .syncTimeout => 2
  | .clutchTimeout => 3
  | .fault => 4
  | .releaseTimeout => 5
  | .offTimeout => 6

/-- The engine commands as the command word numbers them (R190). -/
def EngineCmd.code : EngineCmd → Nat
  | .off => 0
  | .start => 1
  | .sync => 2
  | .run => 3
  | .stop => 4

/-- The clutch commands as the command word numbers them (R190). -/
def ClutchCmd.code : ClutchCmd → Nat
  | .opened => 0
  | .close => 1

/-- The origins as the mode word numbers them (R190). -/
def Origin.code : Origin → Nat
  | .default => 0
  | .loaded => 1

/-- The rejection reasons in the order of R141. -/
def Rejection.code : Rejection → Nat
  | .none => 0
  | .orderT0 => 1
  | .rangeT0 => 2
  | .orderT1 => 3
  | .rangeT1 => 4
  | .rangeT2 => 5
  | .thresholds => 6
  | .claimLost => 7

/-- The freshness states as R191 numbers them. -/
def Freshness.code : Freshness → Nat
  | .undeclared => 0
  | .fresh => 1
  | .aged => 2
  | .lapsed => 3

/-- The engine states as R4 numbers them. -/
def EngineState.code : EngineState → Nat
  | .off => 0
  | .cranking => 1
  | .running => 2
  | .fault => 3

/-- The clutch states as R4 numbers them. -/
def ClutchState.code : ClutchState → Nat
  | .opened => 0
  | .slipping => 1
  | .closed => 2

/-- A one-bit item as a number. -/
def bitNat (b : Bool) : Nat := if b then 1 else 0

/-! ### Packed words -/

/-- The mode word of a record (R135, R190). -/
def SplitRecord.modeWord (r : SplitRecord) : Word :=
  BitVec.ofNat 16 (r.mode.code + 8 * r.seqState.code + 64 * bitNat r.electricAvail + 128 * r.engineAvail.code
    + 512 * bitNat r.derating + 1024 * r.origin.code)

/-- The command word of a record (R135, R190). -/
def SplitRecord.commandWord (r : SplitRecord) : Word :=
  BitVec.ofNat 16 (r.engineCmd.code + 8 * r.clutchCmd.code + 16 * r.mode.code)

/-- Bits 4n+2..4n of the strap map for one port: role and disabled flag (R183). -/
def Port.strapNibble (q : Port) : Nat := q.role.code + 4 * bitNat q.disabled

/-- The strap map (R183). -/
def strapMap (t : PerPort Port) : Word :=
  BitVec.ofNat 16 (t.p0.strapNibble + 16 * t.p1.strapNibble + 256 * t.p2.strapNibble + 4096 * t.p3.strapNibble)

end Sys2Proof.Machine
end

