-- ==== Sys2Proof/Machine/Operands.lean ====
section
/-! DEFINITION. What request words and pins mean: signed words, clamps, the fields of the four reports (R4, R5), the fields of a
DECLARE (R24, R27), row words (R149, R150) and strap pins (R194); and the same values back as words (R6, R186). -/

namespace Sys2Proof.Machine

/-- A word read as a signed 16-bit number in two's complement (R4, R27, R150). -/
def signed (w : Word) : Int := w.toInt

/-- A value as a 16-bit word, two's complement where negative (R186). -/
def word (x : Int) : Word := BitVec.ofInt 16 x

/-- A count as a 16-bit word. -/
def wordN (n : Nat) : Word := BitVec.ofNat 16 n

/-- Clamp: below the range the lower end, above it the upper end (00_scope.md, Clamp, clip, saturate). -/
def clamp (lo hi x : Int) : Int := if x < lo then lo else if hi < x then hi else x

/-- A demand moved toward 0 by a ramp, stopping at 0 (R18, R106). -/
def decay (td ramp : Int) : Int :=
  if 0 < td then (if td < ramp then 0 else td - ramp)
  else if td < 0 then (if -td < ramp then 0 else td + ramp)
  else 0

/-- A numeric report field: clamped to its wire range (R4), then clipped to its envelope range (R5), and whether either
changed it. -/
def reportField (lo hi clipLo clipHi : Int) (w : Word) : Int × Bool :=
  let raw := signed w
  let wire := clamp lo hi raw
  let stored := clamp clipLo clipHi wire
  (stored, decide (wire ≠ raw) || decide (stored ≠ wire))

/-- A numeric report field without an envelope limit (R4, R5). -/
def wireField (lo hi : Int) (w : Word) : Int × Bool := (clamp lo hi (signed w), decide (clamp lo hi (signed w) ≠ signed w))

/-- Engine state field, bits 1..0 (R4). -/
def engineStateOf (w : Word) : EngineState :=
  match w.getLsbD 1, w.getLsbD 0 with
  | false, false => .off
  | false, true => .cranking
  | true, false => .running
  | true, true => .fault

/-- Clutch state field, bits 3..2; code 3 reads as SLIPPING and counts as clamped (R4). -/
def clutchStateOf (w : Word) : ClutchState × Bool :=
  match w.getLsbD 3, w.getLsbD 2 with
  | false, false => (.opened, false)
  | false, true => (.slipping, false)
  | true, false => (.closed, false)
  | true, true => (.slipping, true)

/-- A VEHICLE report's stored fields and whether one was clamped or clipped (R4, R5). -/
def vehicleFields (e : Envelope) (w : Words) : VehicleValues × Bool :=
  let d := reportField (-1000) 1000 (-e.e1) e.e0 w.w1
  let c := wireField 0 1000 w.w2
  (⟨w.w0.getLsbD 0, w.w0.getLsbD 1, d.1, c.1⟩, d.2 || c.2)

/-- An ENGINE report's stored fields (R4, R5). -/
def engineFields (e : Envelope) (w : Words) : EngineValues × Bool :=
  let c := clutchStateOf w.w0
  let t := reportField 0 1000 0 e.e0 w.w1
  let d := reportField 0 1000 0 e.e1 w.w2
  let n := wireField 0 9000 w.w3
  (⟨engineStateOf w.w0, c.1, w.w0.getLsbD 4, w.w0.getLsbD 5, w.w0.getLsbD 6, t.1, d.1, n.1⟩, c.2 || t.2 || d.2 || n.2)

/-- A MOTOR report's stored fields (R4, R5). -/
def motorFields (e : Envelope) (w : Words) : MotorValues × Bool :=
  let m := reportField 0 1000 0 e.e0 w.w1
  let g := reportField 0 1000 0 e.e1 w.w2
  let n := wireField 0 9000 w.w3
  (⟨w.w0.getLsbD 0, m.1, g.1, n.1⟩, m.2 || g.2 || n.2)

/-- A BATTERY report's stored fields (R4, R5). -/
def batteryFields (e : Envelope) (w : Words) : BatteryValues × Bool :=
  let c := wireField 0 1000 w.w0
  let d := reportField 0 3000 0 e.e0 w.w1
  let g := reportField 0 3000 0 e.e1 w.w2
  let a := reportField 0 200 0 e.e2 w.w3
  (⟨c.1, d.1, g.1, a.1⟩, c.2 || d.2 || g.2 || a.2)

/-- The held vehicle values as a report's words; unassigned bits and W3 are 0 (R6). -/
def VehicleValues.words (v : VehicleValues) : Words :=
  ⟨wordN (bitNat v.drive + 2 * bitNat v.zone), word v.demand, word v.regenCap, 0⟩

/-- The held engine values as a report's words (R6). -/
def EngineValues.words (v : EngineValues) : Words :=
  ⟨wordN (v.state.code + 4 * v.clutch.code + 16 * bitNat v.warm + 32 * bitNat v.force + 64 * bitNat v.ready),
    word v.maxTorque, word v.drag, word v.speed⟩

/-- The held motor values as a report's words (R6). -/
def MotorValues.words (v : MotorValues) : Words :=
  ⟨wordN (bitNat v.derating), word v.motoring, word v.generating, word v.speed⟩

/-- The held battery values as a report's words (R6). -/
def BatteryValues.words (v : BatteryValues) : Words := ⟨word v.soc, word v.pdis, word v.pchg, word v.paux⟩

/-- The four envelope fields as a DECLARE's words (R26, R27). -/
def Envelope.words (e : Envelope) : Words := ⟨word e.e0, word e.e1, word e.e2, word e.e3⟩

/-- The lower and upper ends of the four fields of a role's envelope (R24). -/
def envelopeRange : Role → (Int × Int) × (Int × Int) × (Int × Int) × (Int × Int)
  | .vehicle => ((0, 1000), (0, 1000), (1, 500), (2, 50))
  | .engine => ((0, 1000), (0, 200), (1, 200), (2, 50))
  | .motor => ((0, 1000), (0, 1000), (1, 500), (2, 50))
  | .battery => ((0, 3000), (0, 3000), (0, 200), (2, 50))

/-- A DECLARE's words as sent. -/
def sentEnvelope (w : Words) : Envelope := ⟨signed w.w0, signed w.w1, signed w.w2, signed w.w3⟩

/-- A DECLARE's fields clamped to the ranges of its role (R27). -/
def declaredEnvelope (r : Role) (w : Words) : Envelope :=
  let g := envelopeRange r
  let e := sentEnvelope w
  ⟨clamp g.1.1 g.1.2 e.e0, clamp g.2.1.1 g.2.1.2 e.e1, clamp g.2.2.1.1 g.2.2.1.2 e.e2, clamp g.2.2.2.1 g.2.2.2.2 e.e3⟩

/-- The declared freshness window F of an envelope, in periods (R24). -/
def Envelope.window (e : Envelope) : Nat := e.e3.toNat

/-- The role that a port's strap pins select (R194). -/
def strapRole (x : StrapPins) : Role :=
  match x.hi, x.lo with
  | false, false => .vehicle
  | false, true => .engine
  | true, false => .motor
  | true, true => .battery

/-- The role that a report or DECLARE kind is bound to; no other kind is bound (R179). -/
def boundRole : FrameKind → Option Role
  | .vehicleReport => some .vehicle
  | .engineReport => some .engine
  | .motorReport => some .motor
  | .batteryReport => some .battery
  | .declareVehicle => some .vehicle
  | .declareEngine => some .engine
  | .declareMotor => some .motor
  | .declareBattery => some .battery
  | .nop => none
  | .identify => none
  | .readGrant => none
  | .readSplit => none
  | .readStatus => none
  | .readNotices => none
  | .clearNotices => none
  | .setNoticeEnable => none
  | .claim => none
  | .release => none
  | .loadRow => none
  | .commit => none
  | .readRow => none

/-- A place in a calibration set, by table id and row index (R149). -/
inductive RowAddr where
  | line (i : Fin 12)
  | offset (i : Fin 6)
  | thr (i : Fin 27)
deriving DecidableEq, Repr

/-- The row that a table id and a row index, read as unsigned words, address; none where the table id is above 2 or the row
index is at or beyond the table's size (R149, R151). -/
def rowAddr (table index : Word) : Option RowAddr :=
  if table = 0 then (if h : index.toNat < 12 then some (.line ⟨index.toNat, h⟩) else none)
  else if table = 1 then (if h : index.toNat < 6 then some (.offset ⟨index.toNat, h⟩) else none)
  else if table = 2 then (if h : index.toNat < 27 then some (.thr ⟨index.toNat, h⟩) else none)
  else none

/-- A set with one row replaced by two values as sent; table 2 takes the first and ignores the second (R150). -/
def CalSet.load (c : CalSet) (a : RowAddr) (first second : Int) : CalSet :=
  match a with
  | .line i => { c with line := c.line.set i ⟨first, second⟩ }
  | .offset i => { c with offset := c.offset.set i ⟨first, second⟩ }
  | .thr i => { c with thr := c.thr.set i first }

/-- The two values of a row; the second is 0 for table 2 (R150, R151). -/
def CalSet.rowValues (c : CalSet) : RowAddr → Int × Int
  | .line i => (c.line[i].x, c.line[i].y)
  | .offset i => (c.offset[i].x, c.offset[i].y)
  | .thr i => (c.thr[i], 0)

end Sys2Proof.Machine
end

