-- ==== Sys2Proof/Machine/Ops.lean ====
section
/-! DEFINITION. The shared operations on the state: raising notices, settling claims, finishing a frame on a port. The part has
no exception entry; a notice raised and an answer formed are what a wrong request leads to. -/

namespace Sys2Proof.Machine

/-- Raise a kind on one port (R163, R164). -/
def State.raiseOn (p : PortId) (k : NoticeKind) (s : State) : State :=
  { s with ntc := s.ntc.set p ((s.ntc.get p).raise k) }

/-- Raise a broadcast kind: on every enabled port (R164). -/
def State.broadcast (k : NoticeKind) (s : State) : State :=
  { s with ntc := PerPort.zipWith (fun q n => if q.disabled then n else n.raise k) s.ports s.ntc }

/-- Raise a broadcast kind when a condition holds. -/
def State.broadcastIf (b : Bool) (k : NoticeKind) (s : State) : State := if b then s.broadcast k else s

/-- Replace one port. -/
def State.setPort (p : PortId) (q : Port) (s : State) : State := { s with ports := s.ports.set p q }

/-- Form the answer of a completed frame: it becomes the port's held response (R176, R180). -/
def State.answer (p : PortId) (r : Response) (s : State) : State := s.setPort p { s.ports.get p with held := r }

/-- The bits that a frame of `n` clocks shifts out of a held response: its 88 bits, then 0 for every further clock (R175). -/
def shiftedOut (r : Response) (n : Nat) : List Bool :=
  (bytesBits (frameBytes r.result.code r.tag r.words)).take n ++ List.replicate (n - 88) false

/-- The level a port drives onto MISO: nothing while no frame is in progress, else the bit of the held response at the
transmit position (R175, R192). So a port that waits after the release, with PSEL low and no frame in progress, drives nothing: R175
begins to drive at a falling PSEL, while the pin table of chapter 11.7 says "driven while PSELn is low" (DESIGN CHOICE, log 22). -/
def State.miso (s : State) (p : PortId) : Option Bool :=
  let q := s.ports.get p
  if s.rstN && q.inFrame then some ((bytesBits (frameBytes q.held.result.code q.held.tag q.held.words)).getD q.txPos false)
  else none

/-- PSEL rises on a frame that carried these bits: the receive buffer keeps at most eleven bytes of them, the count counts
them all, and as many bits of the held response have gone out (R174, R175, R177). Of a frame of more than 88 bits the buffer keeps the
first 88, and the count goes on without limit: the spec says neither (DESIGN CHOICE, log 26). -/
def State.frameEnds (p : PortId) (bits : List Bool) (s : State) : State :=
  let q := s.ports.get p
  s.setPort p { q with inFrame := false, rx := bits.take 88, rxCount := bits.length, txPos := min 88 bits.length
                       sent := shiftedOut q.held bits.length }

/-- A claim loss: the slot becomes free, the staging set is discarded, CLAIM_LOST is raised; a pending commit is discarded
with reason CLAIM_LOST and CAL_REJECTED (R157). -/
def State.loseClaim (c : Claim) (s : State) : State :=
  let s1 := { s with cal := { s.cal with claim := none
                                         lastRejection := if c.pending then .claimLost else s.cal.lastRejection } }
  (s1.broadcastIf c.pending .calRejected).broadcast .claimLost

/-- A source's entry to LAPSED at a boundary, as CAL takes it: the claim is lost if the role's port holds it (R12, R157). -/
def State.lapseSignal (r : Role) (s : State) : State :=
  match s.cal.claim with
  | some c => if (s.ports.get c.holder).role = r then s.loseClaim c else s
  | none => s

/-- What a request leaves and answers (R180). -/
structure Served where
  state : State
  result : ResultCode
  words : Words

/-- A refusal by a block: nothing changes and the words are 0 (R186). -/
def Served.refuse (r : ResultCode) (s : State) : Served := ⟨s, r, zeroWords⟩

end Sys2Proof.Machine
end

