-- ==== Sys2Proof/Machine/Sources.lean ====
section
/-! DEFINITION. The input table SRC: reports taken (R3 to R9), the boundary update of a source (R11 to R14), the snapshot (R17 to
R22), and the commands SNAPSHOT, FRESHNESS_EXPIRY, HOLD_EXPIRY and REQUALIFY_EXPIRY. -/

namespace Sys2Proof.Machine

/-! ### The boundary update and the snapshot -/

/-- What the boundary makes of a source record: the record, whether SOURCE_CHANGED is raised, whether the source entered
LAPSED (R11 to R14); `h` is the hold periods row of the active set (R16). -/
def boundaryCtl (h : Nat) (c : SourceCtl) : SourceCtl × Bool × Bool :=
  match c.state with
  | .undeclared => (c, false, false)
  | .fresh =>
    if c.fresh - 1 = 0 then ({ c with state := .aged, fresh := 0, hold := h }, true, false)
    else ({ c with fresh := c.fresh - 1 }, false, false)
  | .aged =>
    if c.hold - 1 = 0 then ({ c with state := .lapsed, hold := 0, requal := 0, counted := false }, true, true)
    else ({ c with hold := c.hold - 1 }, false, false)
  | .lapsed =>
    ({ c with fresh := c.fresh - 1, requal := if c.fresh = 1 then 0 else c.requal, counted := false }, false, false)

/-- The boundary update of one source record, its notice and its signal to CAL (R11 to R14, R23). -/
def State.boundaryUpdate (r : Role) (s : State) : State :=
  let b := boundaryCtl s.cal.active.holdPeriods (s.src.get r)
  let s1 := State.broadcastIf b.2.1 .sourceChanged { s with src := s.src.set r b.1 }
  if b.2.2 then s1.lapseSignal r else s1

/-- How a source's state stands in the snapshot: UNDECLARED as LAPSED (R22). -/
def presented : Freshness → Freshness
  | .undeclared => .lapsed
  | .fresh => .fresh
  | .aged => .aged
  | .lapsed => .lapsed

/-- The vehicle values of a snapshot (R17, R18, R22). -/
def vehicleSnap (st : Freshness) (v : VehicleValues) (prevTd ramp : Int) : VehicleValues :=
  match presented st with
  | .lapsed => ⟨false, false, decay prevTd ramp, 0⟩
  | .fresh => v
  | .aged => v
  | .undeclared => v

/-- The engine values of a snapshot (R17, R19). -/
def engineSnap (st : Freshness) (v : EngineValues) : EngineValues :=
  match presented st with
  | .lapsed => .substitute
  | .fresh => v
  | .aged => v
  | .undeclared => v

/-- The motor values of a snapshot (R17, R19). -/
def motorSnap (st : Freshness) (v : MotorValues) : MotorSnap :=
  match presented st with
  | .lapsed => .substitute
  | .fresh => ⟨v.derating, v.motoring, v.generating, some v.speed⟩
  | .aged => ⟨v.derating, v.motoring, v.generating, some v.speed⟩
  | .undeclared => ⟨v.derating, v.motoring, v.generating, some v.speed⟩

/-- The battery values of a snapshot; a LAPSED source keeps its held SoC (R17, R19, R20). -/
def batterySnap (st : Freshness) (v : BatteryValues) : BatteryValues :=
  match presented st with
  | .lapsed => ⟨v.soc, 0, 0, 0⟩
  | .fresh => v
  | .aged => v
  | .undeclared => v

/-- The snapshot with one source's part taken from its record as it stands (R17). The decaying demand starts from the Td of
the record before and uses the vehicle decay ramp of the period copy (R18, R25). -/
def State.snapPart (r : Role) (s : State) : Snapshot :=
  let st := (s.src.get r).state
  let sn := { s.snap with state := s.snap.state.set r (presented st) }
  match r with
  | .vehicle => { sn with vehicle := vehicleSnap st s.heldVals.vehicle s.record.td s.envCopy.vehicle.e2 }
  | .engine => { sn with engine := engineSnap st s.heldVals.engine }
  | .motor => { sn with motor := motorSnap st s.heldVals.motor }
  | .battery => { sn with battery := batterySnap st s.heldVals.battery }

/-- SRC's and ENV's second stage for one source: its boundary update, its period copy (R25) and its part of the snapshot,
once in each operation (log 7). -/
def State.settleSource (r : Role) (s : State) : State :=
  if s.snapDone.get r then s
  else
    let s1 := s.boundaryUpdate r
    let s2 := { s1 with envCopy := s1.envCopy.set r (s1.env.get r), snapDone := s1.snapDone.set r true }
    { s2 with snap := s2.snapPart r }

/-- A change of a source record that arrives after the boundary and before SRC's stage finds that source's boundary update,
snapshot and period copy complete (R15, R33; log 9). -/
def State.finishSource (r : Role) (s : State) : State := if s.stage = .src then s.settleSource r else s

/-- SRC's stage: every source not yet brought up to date, in role order (R11 to R17). -/
def State.snapshotStage (s : State) : State :=
  if s.rstN = true ∧ s.stage = .src then
    { (((s.settleSource .vehicle).settleSource .engine).settleSource .motor).settleSource .battery with stage := .spd }
  else s

/-- A FRESH source's freshness counter reaches 0 at this boundary (R11). -/
def freshnessExpires (c : SourceCtl) : Bool := c.state == .fresh && c.fresh - 1 == 0

/-- An AGED source's hold counter reaches 0 at this boundary (R12). -/
def holdExpires (c : SourceCtl) : Bool := c.state == .aged && c.hold - 1 == 0

/-- A LAPSED source's freshness counter is brought to 0 at this boundary (R13). -/
def requalifyExpires (c : SourceCtl) : Bool := c.state == .lapsed && c.fresh == 1

/-- An expiry of one source: its part of SRC's stage, when the stage is due and the expiry is what its boundary update makes
(log 7). -/
def State.sourceExpiry (due : SourceCtl → Bool) (r : Role) (s : State) : State :=
  if s.rstN = true ∧ s.stage = .src ∧ due (s.src.get r) = true then s.settleSource r else s

/-- SNAPSHOT (R17). -/
def execSnapshot (s : State) : Outcome := .next s.snapshotStage

/-- FRESHNESS_EXPIRY (R11). -/
def execFreshnessExpiry (r : Role) (s : State) : Outcome := .next (s.sourceExpiry freshnessExpires r)

/-- HOLD_EXPIRY (R12). -/
def execHoldExpiry (r : Role) (s : State) : Outcome := .next (s.sourceExpiry holdExpires r)

/-- REQUALIFY_EXPIRY (R13). -/
def execRequalifyExpiry (r : Role) (s : State) : Outcome := .next (s.sourceExpiry requalifyExpires r)

/-! ### Reports -/

/-- What a report stores: the held values, whether a field was clamped or clipped, and the echo (R4 to R6). -/
structure Stored where
  held : Held
  clamped : Bool
  echo : Words

/-- A report of a role taken against its live envelope (R4 to R7). -/
def storeReport (r : Role) (e : Envelope) (w : Words) (h : Held) : Stored :=
  match r with
  | .vehicle => let f := vehicleFields e w; ⟨{ h with vehicle := f.1 }, f.2, f.1.words⟩
  | .engine => let f := engineFields e w; ⟨{ h with engine := f.1 }, f.2, f.1.words⟩
  | .motor => let f := motorFields e w; ⟨{ h with motor := f.1 }, f.2, f.1.words⟩
  | .battery => let f := batteryFields e w; ⟨{ h with battery := f.1 }, f.2, f.1.words⟩

/-- What an accepted report makes of the record, and whether the source's state changed (R6 to R9). -/
def acceptCtl (f : Nat) (clamped : Bool) (c : SourceCtl) : SourceCtl × Bool :=
  let d := { c with fresh := f, clipped := clamped }
  match c.state with
  | .undeclared => (d, false)
  | .fresh => (d, false)
  | .aged => ({ d with state := .fresh, hold := 0 }, true)
  | .lapsed =>
    if c.counted then (d, false)
    else if 3 ≤ c.requal + 1 then ({ d with state := .fresh, requal := 0, counted := false }, true)
    else ({ d with requal := c.requal + 1, counted := true }, false)

/-- A report that the PIU has admitted (R3 to R9). -/
def serveReport (r : Role) (w : Words) (s : State) : Served :=
  if (s.src.get r).state = .undeclared then .refuse .undeclared s
  else
    let s1 := s.finishSource r
    let f := storeReport r (s1.env.get r) w s1.heldVals
    let c := acceptCtl (s1.env.get r).window f.clamped (s1.src.get r)
    let s2 := { s1 with heldVals := f.held, src := s1.src.set r c.1 }
    ⟨s2.broadcastIf c.2 .sourceChanged, if f.clamped then .okClamped else .ok, f.echo⟩

end Sys2Proof.Machine
end

