-- ==== Sys2Proof/Machine/Envelopes.lean ====
section
/-! DEFINITION. The envelope table ENV: the DECLARE request and what it does to the source (R26 to R32). -/

namespace Sys2Proof.Machine

/-- The held values re-clipped to a role's new envelope (R29). The regen cap, the flags, the speeds and SoC have no limit. -/
def reclip (r : Role) (e : Envelope) (h : Held) : Held :=
  match r with
  | .vehicle => { h with vehicle := { h.vehicle with demand := clamp (-e.e1) e.e0 h.vehicle.demand } }
  | .engine =>
    { h with engine := { h.engine with maxTorque := clamp 0 e.e0 h.engine.maxTorque, drag := clamp 0 e.e1 h.engine.drag } }
  | .motor =>
    { h with motor := { h.motor with motoring := clamp 0 e.e0 h.motor.motoring
                                     generating := clamp 0 e.e1 h.motor.generating } }
  | .battery =>
    { h with battery := { h.battery with pdis := clamp 0 e.e0 h.battery.pdis, pchg := clamp 0 e.e1 h.battery.pchg
                                         paux := clamp 0 e.e2 h.battery.paux } }

/-- What a taken DECLARE makes of the source record: the clipped flag (R29), the lowered freshness counter (R30), and
UNDECLARED to LAPSED (R31). -/
def declareCtl (f : Nat) (clipped : Bool) (c : SourceCtl) : SourceCtl :=
  let d := { c with fresh := min c.fresh f, clipped := c.clipped || clipped }
  match c.state with
  | .undeclared => { d with state := .lapsed, fresh := 0, hold := 0, requal := 0, counted := false }
  | .fresh => d
  | .aged => d
  | .lapsed => d

/-- The modes in which a DECLARE is taken (R26). -/
def declareOpen (m : Mode) : Bool := m == .init || m == .parked

/-- A DECLARE that the PIU has admitted (R26 to R32). -/
def serveDeclare (r : Role) (w : Words) (s : State) : Served :=
  if declareOpen s.record.mode then
    let e := declaredEnvelope r w
    let s1 := s.finishSource r
    let h := reclip r e s1.heldVals
    let s2 := { s1 with env := s1.env.set r e, heldVals := h
                        src := s1.src.set r (declareCtl e.window (decide (h ≠ s1.heldVals)) (s1.src.get r)) }
    ⟨s2.broadcast .envelopeChanged, if e = sentEnvelope w then .ok else .okClamped, e.words⟩
  else ⟨s, .wrongMode, (s.env.get r).words⟩

end Sys2Proof.Machine
end

