-- ==== Sys2Proof/Machine/Notices.lean ====
section
/-! DEFINITION. The three notice requests (R166 to R168). -/

namespace Sys2Proof.Machine

/-- A port's sets in the order of R166: raw, repeat, pending, enable. -/
def Notices.words (n : Notices) : Words := ⟨n.raw, n.rep, n.pendingSet, n.enable⟩

/-- READ_NOTICES (R166). -/
def serveReadNotices (p : PortId) (s : State) : Served := ⟨s, .ok, (s.ntc.get p).words⟩

/-- CLEAR_NOTICES: the sets before, the pending set after, the enable set (R167). -/
def serveClearNotices (p : PortId) (w : Words) (s : State) : Served :=
  let n := s.ntc.get p
  let m := n.clear w.w0
  ⟨{ s with ntc := s.ntc.set p m }, .ok, ⟨n.raw, n.rep, m.pendingSet, n.enable⟩⟩

/-- SET_NOTICE_ENABLE (R168). -/
def serveSetNoticeEnable (p : PortId) (w : Words) (s : State) : Served :=
  let m := { s.ntc.get p with enable := w.w0 }
  ⟨{ s with ntc := s.ntc.set p m }, .ok, m.words⟩

end Sys2Proof.Machine
end

