-- ==== Sys2Proof/Machine/Speed.lean ====
section
/-! DEFINITION. The speed unit SPD: the edge filter (R38 to R40), its adjustment when a commit is applied (R43), its stage (R41,
R42, R44 to R49), and the commands SPD_SAMPLE and SPEED_UNIT_STAGE. -/

namespace Sys2Proof.Machine

/-- An accepted edge to a new level: the filtered level takes it, the candidates return to 0, and the period count, which
stops at 255, counts the edge if it has the counted polarity (R38, R40). -/
def Spd.edge (rising : Bool) (level : Bool) (u : Spd) : Spd :=
  { u with filtered := level, candidate := 0, count := if level == rising then min 255 (u.count + 1) else u.count }

/-- One sample of the pin through the edge filter: with the noise rejector on (R38), and off (R39). -/
def Spd.sample (c : CalSet) (level : Bool) (u : Spd) : Spd :=
  if c.rejectorOn then
    if level == u.filtered then { u with candidate := 0 }
    else if 2 ≤ u.candidate then u.edge c.countsRising level
    else { u with candidate := u.candidate + 1 }
  else if level == u.filtered then { u with candidate := 0 }
  else u.edge c.countsRising level

/-- The adjustment of R43 when a commit changes the pulse options: a rejector turned off makes the filtered level take the
pin's present level at once. -/
def Spd.adjust (old new : CalSet) (pin : Bool) (u : Spd) : Spd :=
  if old.rejectorOn && !new.rejectorOn then
    if pin == u.filtered then { u with candidate := 0 } else u.edge new.countsRising pin
  else u

/-- A boundary clears the period count; the count it ends goes to the ring at the unit's stage (R40, R41; log 10). -/
def Spd.boundary (u : Spd) : Spd := { u with boundaryCount := u.count, count := 0 }

/-- The ring with a newest count entered and the oldest gone (R41). -/
def ringEnter (n : Nat) (ring : List Nat) : List Nat := (n :: ring).take 8

/-- The pulse speed of a ring (R42). -/
def pulseSpeed (w teeth : Nat) (ring : List Nat) : Int := min 9000 (((ring.take w).sum * 6000 / (teeth * w) : Nat) : Int)

/-- Pulse and motor speed disagree: their difference is above the larger of 150 and an eighth of the larger speed (R44). -/
def disagrees (a b : Int) : Bool := decide (max 150 (max a b / 8) < ((a - b).natAbs : Int))

/-- The run counters and the check state after a comparison, and whether the state changed (R45). -/
def Spd.judge (d : Nat) (verdict : Bool) (u : Spd) : Spd × Bool :=
  match u.check with
  | .plausible =>
    if verdict then
      if d ≤ min 100 (u.disagree + 1) then ({ u with check := .implausible, disagree := 0 }, true)
      else ({ u with disagree := min 100 (u.disagree + 1) }, false)
    else ({ u with disagree := 0 }, false)
  | .implausible =>
    if verdict then ({ u with agree := 0 }, false)
    else if d ≤ min 100 (u.agree + 1) then ({ u with check := .plausible, agree := 0 }, true)
    else ({ u with agree := min 100 (u.agree + 1) }, false)

/-- The plausibility check on the snapshot's motor speed (R44, R45, R47). -/
def Spd.compare (c : CalSet) (nMotor : Option Int) (u : Spd) : Spd × Bool :=
  match nMotor with
  | some n => { u with nMotorUsed := n, absent := false }.judge c.plausDwell (disagrees u.nPulse n)
  | none => ({ u with nMotorUsed := 0, absent := true }, false)

/-- The selected speed (R48). -/
def Spd.selected (nMotor : Option Int) (u : Spd) : Int :=
  match nMotor with
  | some n => match u.check with
    | .plausible => n
    | .implausible => max u.nPulse n
  | none => u.nPulse

/-- The unit's stage: ring and pulse speed, check, selection (R41, R42, R44 to R49), and whether the check state changed. -/
def Spd.stage (c : CalSet) (nMotor : Option Int) (u : Spd) : Spd × Bool :=
  let ring := ringEnter u.boundaryCount u.ring
  let v := ({ u with ring := ring, nPulse := pulseSpeed c.window c.teeth ring } : Spd).compare c nMotor
  let n := v.1.selected nMotor
  ({ v.1 with nSel := n, nEff := max n c.nFloor }, v.2)

/-- The motor speed that a snapshot gives the check: absent while the motor source is LAPSED (R44). -/
def Snapshot.motorSpeed (sn : Snapshot) : Option Int := if sn.state.motor = .lapsed then none else sn.motor.speed

/-- Stage 3 of the operation (R99). -/
def State.speedStage (s : State) : State :=
  if s.rstN = true ∧ s.stage = .spd then
    let v := s.spd.stage s.cal.active s.snap.motorSpeed
    State.broadcastIf v.2 .speedCheckChanged { s with spd := v.1, stage := .mode }
  else s

/-- A sample of the SPD pin, taken whenever RST_N is high (chapter 3.2), at whatever count the sample divider stands (DESIGN CHOICE,
log 27). -/
def State.samplePin (level : Bool) (s : State) : State :=
  if s.rstN then { s with spdPin := level, sampleDiv := Config.sampleReload, spd := s.spd.sample s.cal.active level } else s

/-- SPD_SAMPLE (R38, R39, R40). -/
def execSpdSample (level : Bool) (s : State) : Outcome := .next (s.samplePin level)

/-- SPEED_UNIT_STAGE (R42). -/
def execSpeedUnitStage (s : State) : Outcome := .next s.speedStage

end Sys2Proof.Machine
end

