-- ==== Sys2Proof/Machine/Calibration.lean ====
section
/-! DEFINITION. The calibration store CAL: validation (R153), application and rejection of a commit (R154, R155) with the
adjustments of R16, R43 and R96, the six calibration requests (R145 to R152), and the command PERIOD_BOUNDARY (R99). -/

namespace Sys2Proof.Machine

/-! ### Validation -/

/-- Strictly increasing from the first value to the last (R153). -/
def increasing : List Int → Bool
  | [] => true
  | [_] => true
  | a :: b :: t => decide (a < b) && increasing (b :: t)

/-- A value in a span, both ends included. -/
def inSpan (lo hi x : Int) : Bool := decide (lo ≤ x) && decide (x ≤ hi)

/-- What values a row of table 2 may hold (R143). -/
inductive RowRange where
  | span (lo hi : Int)
  | oneOf (l : List Int)
deriving DecidableEq, Repr

/-- A value is within a row's range or list (R143). -/
def RowRange.admits (x : Int) : RowRange → Bool
  | .span lo hi => inSpan lo hi x
  | .oneOf l => l.contains x

/-- The ranges of rows 0 to 26 of table 2 (R143). -/
def thrRanges : List RowRange :=
  [.span 0 1000, .span 0 1000, .span 0 1000, .span 0 1000, .span 0 1000, .span 1000 9000, .span 0 2000, .span 100 1000,
   .span 1 500, .span 0 1000, .span 1 3000, .span 200 1500, .span 700 1000, .span 1 20, .span 0 3, .span 20 500,
   .span 20 500, .span 20 500, .span 1 50, .span 10 500, .span 10 1000, .span 20 1000, .oneOf [1, 2, 4, 8],
   .oneOf [30, 60, 120], .oneOf [0, 1, 2, 3], .span 1 1000, .span 1 100]

/-- Check 1a (R153). -/
def CalSet.orderT0 (c : CalSet) : Bool := increasing (c.line.toList.map Row.x)
/-- Check 1b (R153). -/
def CalSet.rangeT0 (c : CalSet) : Bool := c.line.toList.all (fun r => inSpan 0 9000 r.x && inSpan 0 1000 r.y)
/-- Check 2a (R153). -/
def CalSet.orderT1 (c : CalSet) : Bool := increasing (c.offset.toList.map Row.x)
/-- Check 2b (R153). -/
def CalSet.rangeT1 (c : CalSet) : Bool := c.offset.toList.all (fun r => inSpan 0 1000 r.x && inSpan (-200) 200 r.y)
/-- Check 3 (R153). -/
def CalSet.rangeT2 (c : CalSet) : Bool := (List.zipWith (fun g x => RowRange.admits x g) thrRanges c.thr.toList).all id
/-- Check 4 (R153). -/
def CalSet.orderings (c : CalSet) : Bool :=
  decide (c.socReserve < c.socStart) && decide (c.socStart < c.socStop) && decide (c.socStart < c.chargeOn)
    && decide (c.chargeOn < c.chargeOff) && decide (c.chargeOff ≤ c.socStop) && decide (c.stopFraction < c.startFraction)

/-- The reason of the first check that fails, in the order of R153, or NONE. -/
def CalSet.validate (c : CalSet) : Rejection :=
  if !c.orderT0 then .orderT0
  else if !c.rangeT0 then .rangeT0
  else if !c.orderT1 then .orderT1
  else if !c.rangeT1 then .rangeT1
  else if !c.rangeT2 then .rangeT2
  else if !c.orderings then .thresholds
  else .none

/-! ### Settling a commit -/

/-- The timeout row of a wait state (R80); 0 where the state is no wait state. -/
def timeoutRow (c : CalSet) : SeqState → Nat
  | .crankWait => c.crankTimeout
  | .speedSync => c.syncTimeout
  | .clutchWait => c.clutchTimeout
  | .clutchRelease => c.clutchTimeout
  | .offWait => c.offTimeout
  | .off => 0
  | .coupled => 0
  | .unload => 0

/-- The five wait states (R80). -/
def SeqState.waits : SeqState → Bool
  | .crankWait => true
  | .speedSync => true
  | .clutchWait => true
  | .clutchRelease => true
  | .offWait => true
  | .off => false
  | .coupled => false
  | .unload => false

/-- A counter when a set is applied: where its row changes and it stands above the new row, it is lowered to that row; otherwise it is
left as it stands (R96). -/
def lowerChanged (old row x : Nat) : Nat := if row = old then x else min x row

/-- A wait timer when a set is applied that changes its timeout row from `old` to `row`. R96's list lowers a timer above the new row to
that row and leaves any other; R96's last paragraph and R156 say that a wait whose new timeout, lowered, is below the time already
spent times out at that boundary, which the list alone never brings about. Both hold here, the second first: such a timer is lowered
to its last period, so SEQ's stage of the same operation brings it to 0 (DESIGN CHOICE, log 23). A row that the set leaves as it was,
and a row that it raises, ends no wait. A timer at 0 does not run. -/
def lowerTimer (old row spent timer : Nat) : Nat :=
  if row < old ∧ row < spent ∧ timer ≠ 0 then 1 else lowerChanged old row timer

/-- SEQ's running state when a set is applied in place of another: each item by the row that governs it, where that row changes
(R96; log 23). A state that is no wait has no timeout row, so its timer stays. A read of selector 4 that completes between this and
SEQ's stage shows the items as adjusted, although R97 says that SEQ changes them at its stage (DESIGN CHOICE, log 25). -/
def Seq.adjust (old new : CalSet) (q : Seq) : Seq :=
  { q with timer := lowerTimer (timeoutRow old q.state) (timeoutRow new q.state) q.spent q.timer
           coolOff := lowerChanged old.coolOff new.coolOff q.coolOff
           attempts := lowerChanged (old.retryLimit + 1) (new.retryLimit + 1) q.attempts }

/-- An AGED source's hold counter when a new set is applied (R16). A read of selectors 0 to 3 that completes between this and SRC's stage
shows it lowered, although R184's table does not name the first stage for them (DESIGN CHOICE, log 25). -/
def SourceCtl.lowerHold (h : Nat) (c : SourceCtl) : SourceCtl := if c.state = .aged then { c with hold := min c.hold h } else c

/-- A commit that passed validation is applied (R154). -/
def State.applyCommit (c : Claim) (s : State) : State :=
  State.broadcast .calCommitted
    { s with cal := { s.cal with active := c.staging, claim := some { c with pending := false }, origin := .loaded
                                 commitCount := min 65535 (s.cal.commitCount + 1) }
             src := s.src.map (SourceCtl.lowerHold c.staging.holdPeriods)
             spd := s.spd.adjust s.cal.active c.staging s.spdPin
             seq := s.seq.adjust s.cal.active c.staging }

/-- A commit that failed validation is rejected (R155). -/
def State.rejectCommit (c : Claim) (why : Rejection) (s : State) : State :=
  State.broadcast .calRejected
    { s with cal := { s.cal with claim := some { c with pending := false }, lastRejection := why } }

/-- CAL's first stage: a pending commit is validated and settled (R153 to R155). -/
def State.settleCommit (s : State) : State :=
  match s.cal.claim with
  | some c =>
    if c.pending then (if c.staging.validate = .none then s.applyCommit c else s.rejectCommit c c.staging.validate) else s
  | none => s

/-- A period boundary, with the present level of the SPD pin: TMR reloads, the period count is cleared, and the first stage
settles a pending commit (R99, R196, R40, R153). The boundary is TMR's expiry, so the command is taken as that expiry at whatever count
TMR stands (DESIGN CHOICE, log 27). -/
def State.beginPeriod (pin : Bool) (s : State) : State :=
  if s.rstN = true ∧ s.stage = .idle then
    State.settleCommit { s with tmr := Config.periodReload, spdPin := pin, spd := s.spd.boundary, snapDone := .all false
                                stage := .src }
  else s

/-- PERIOD_BOUNDARY (R99). -/
def execPeriodBoundary (pin : Bool) (s : State) : Outcome := .next (s.beginPeriod pin)

/-! ### The requests -/

/-- The calibration status words (R159, R191). -/
def State.calStatus (s : State) : Words :=
  match s.cal.claim with
  | some c =>
    ⟨wordN (s.cal.origin.code + 2 * bitNat c.pending), wordN s.cal.commitCount, wordN s.cal.lastRejection.code,
      wordN ((s.ports.get c.holder).role.code + 4)⟩
  | none => ⟨wordN s.cal.origin.code, wordN s.cal.commitCount, wordN s.cal.lastRejection.code, 0⟩

/-- The claim slot replaced. -/
def State.withClaim (c : Option Claim) (s : State) : State := { s with cal := { s.cal with claim := c } }

/-- An answer that carries the calibration status after the request (R147). -/
def Served.status (r : ResultCode) (s : State) : Served := ⟨s, r, s.calStatus⟩

/-- CLAIM (R145). -/
def serveClaim (p : PortId) (s : State) : Served :=
  match s.cal.claim with
  | none => .status .ok (s.withClaim (some ⟨p, s.cal.active, false⟩))
  | some c => if c.holder = p then .status .ok s else .status .held s

/-- RELEASE (R146). -/
def serveRelease (p : PortId) (s : State) : Served :=
  match s.cal.claim with
  | none => .status .noClaim s
  | some c =>
    if c.holder ≠ p then .status .notHolder s
    else if c.pending then .status .busy s
    else .status .ok (s.withClaim none)

/-- The four words of a row as LOAD_ROW and READ_ROW answer it (R150, R151). -/
def rowWords (table index : Word) (v : Int × Int) : Words := ⟨table, index, word v.1, word v.2⟩

/-- LOAD_ROW (R149, R150). -/
def serveLoadRow (p : PortId) (w : Words) (s : State) : Served :=
  match s.cal.claim with
  | none => .refuse .noClaim s
  | some c =>
    if c.holder ≠ p then .refuse .notHolder s
    else if c.pending then .refuse .busy s
    else match rowAddr w.w0 w.w1 with
      | none => .refuse .badArgument s
      | some a =>
        let st := c.staging.load a (signed w.w2) (signed w.w3)
        ⟨s.withClaim (some { c with staging := st }), .ok, rowWords w.w0 w.w1 (st.rowValues a)⟩

/-- COMMIT (R152). -/
def serveCommit (p : PortId) (s : State) : Served :=
  match s.cal.claim with
  | none => .status .noClaim s
  | some c =>
    if c.holder ≠ p then .status .notHolder s
    else if c.pending then .status .busy s
    else .status .accepted (s.withClaim (some { c with pending := true }))

/-- A row of a set, or BAD_ARGUMENT (R151). -/
def readRowOf (c : CalSet) (w : Words) (s : State) : Served :=
  match rowAddr w.w0 w.w1 with
  | none => .refuse .badArgument s
  | some a => ⟨s, .ok, rowWords w.w0 w.w1 (c.rowValues a)⟩

/-- READ_ROW; bit 0 of W2 is the staging flag (R151, R188). -/
def serveReadRow (p : PortId) (w : Words) (s : State) : Served :=
  if w.w2.getLsbD 0 then
    match s.cal.claim with
    | none => .refuse .noClaim s
    | some c => if c.holder ≠ p then .refuse .notHolder s else readRowOf c.staging w s
  else readRowOf s.cal.active w s

end Sys2Proof.Machine
end

