-- ==== Sys2Proof/Machine/Modes.lean ====
section
/-! DEFINITION. The mode controller MODE: its decision stage (R52, R55 to R72), its settling point (R53, R65, R73), and the command
MODE_DECISION. -/

namespace Sys2Proof.Machine

/-! ### The derived conditions -/

/-- What MODE's decision is taken on: the snapshot, n_sel, the Tm_hi of the record before, the sequencer state, the active
set, and the engine availability after the cool-off cut (R52). -/
structure ModeInput where
  snap : Snapshot
  nSel : Int
  tmHi : Int
  seqState : SeqState
  avail : Avail
  cal : CalSet

/-- A source is not LAPSED in the snapshot; an undeclared source counts as LAPSED (R22, R56). -/
def Snapshot.alive (sn : Snapshot) (r : Role) : Bool := sn.state.get r == .fresh || sn.state.get r == .aged

/-- The electric path is available (R56). -/
def Snapshot.electricPath (sn : Snapshot) : Bool := sn.alive .motor && sn.alive .battery

/-- The engine state reads FAULT in the snapshot, reported or substituted (R21). -/
def Snapshot.engineFault (sn : Snapshot) : Bool := sn.engine.state == .fault

/-- The engine path is available (R56). -/
def ModeInput.enginePath (i : ModeInput) : Bool := i.snap.alive .engine && i.avail == .available

/-- SoC at or below SoC reserve: trigger (f) of R63. -/
def ModeInput.atReserve (i : ModeInput) : Bool := decide (i.snap.battery.soc ≤ i.cal.socReserve)

/-- A reserve breach holds (R57). -/
def ModeInput.breach (i : ModeInput) : Bool := i.atReserve || !i.snap.electricPath

/-- The zone is effective (R57). -/
def ModeInput.zoneEffective (i : ModeInput) : Bool := i.snap.vehicle.zone && !i.breach

/-- The zone overruled flag as the evaluation sets it (R57). -/
def ModeInput.overruled (i : ModeInput) : Bool := i.snap.vehicle.zone && i.breach

/-- The override conflict flag as the evaluation sets it (R58). -/
def ModeInput.conflict (i : ModeInput) : Bool := i.snap.engine.force && i.snap.vehicle.zone && i.zoneEffective

/-- A fraction, in per-mille, of the Tm_hi of the record before, rounded down (R59, R60). -/
def ModeInput.fraction (i : ModeInput) (f : Int) : Int := f * i.tmHi / 1000

/-- The demand start condition (R59). -/
def ModeInput.startCondition (i : ModeInput) : Bool := decide (i.fraction i.cal.startFraction < i.snap.vehicle.demand)

/-- The dwell stop condition (R60). -/
def ModeInput.stopCondition (i : ModeInput) : Bool :=
  decide (i.cal.socStop ≤ i.snap.battery.soc) && decide (i.snap.vehicle.demand < i.fraction i.cal.stopFraction)
    && decide (i.nSel < i.cal.ceiling - i.cal.ceilingHyst) && !i.snap.engine.force && i.snap.electricPath

/-- The engine is coupled for driving: HYBRID and CHARGE (R60). -/
def Mode.coupled (m : Mode) : Bool := m == .hybrid || m == .charge

/-- The start dwell run after this snapshot (R59). -/
def ModeInput.startRun (i : ModeInput) (run : Nat) : Nat := if i.startCondition then min 500 (run + 1) else 0

/-- The stop dwell run after this snapshot (R60). -/
def ModeInput.stopRun (i : ModeInput) (m : Mode) (run : Nat) : Nat :=
  if m.coupled && i.stopCondition then min 3000 (run + 1) else 0

/-- The zone-gated triggers (a) to (d) of R63 without their gate; `run` is the start dwell run after this snapshot. -/
def ModeInput.demandTriggers (i : ModeInput) (run : Nat) : Bool :=
  decide (i.snap.battery.soc ≤ i.cal.socStart) || decide (i.cal.startDwell ≤ run) || decide (i.cal.ceiling < i.nSel)
    || i.snap.engine.force

/-- At least one of triggers (a) to (d) counts: the zone is not effective (R63). -/
def ModeInput.gatedTrigger (i : ModeInput) (run : Nat) : Bool := i.demandTriggers run && !i.zoneEffective

/-- At least one start trigger (a) to (f) holds (R63). -/
def ModeInput.trigger (i : ModeInput) (run : Nat) : Bool := i.gatedTrigger run || !i.snap.electricPath || i.atReserve

/-- The SAFE entry conditions (R71). -/
def ModeInput.safeEntry (i : ModeInput) : Bool := !i.snap.alive .vehicle || (!i.snap.electricPath && !i.enginePath)

/-- HYBRID or CHARGE by the snapshot SoC, on entry to a coupled mode (R53, R70). -/
def coupledMode (soc : Int) (c : CalSet) : Mode := if soc < c.chargeOn then .charge else .hybrid

/-! ### The decision -/

/-- What a decision changes: mode, stop kind and destination, stop dwell run, and the request to SEQ (R52). -/
structure Decision where
  mode : Mode
  kind : StopKind
  dest : StopDest
  stopRun : Nat
  request : Option Request
deriving DecidableEq, Repr

/-- A decision that leaves a mode outside STOPPING and makes no request (R51, Note 1). -/
def Decision.plain (m : Mode) (run : Nat) : Decision := ⟨m, .none, .none, run, none⟩

/-- INIT (R61). -/
def ModeInput.decideInit (i : ModeInput) (run : Nat) : Decision :=
  if i.snap.state = .all .fresh ∧ i.snap.vehicle.drive = false then .plain .parked run else .plain .init run

/-- PARKED (R62). -/
def ModeInput.decideParked (i : ModeInput) (run : Nat) : Decision :=
  if i.safeEntry then .plain .safe run
  else if i.snap.vehicle.drive then .plain .electric run
  else .plain .parked run

/-- ELECTRIC (R63). -/
def ModeInput.decideElectric (i : ModeInput) (startRun run : Nat) : Decision :=
  if i.safeEntry then .plain .safe run
  else if !i.snap.vehicle.drive then .plain .parked run
  else if i.enginePath && i.trigger startRun then { Decision.plain .starting run with request := some .start }
  else .plain .electric run

/-- STARTING (R64). -/
def ModeInput.decideStarting (i : ModeInput) (run : Nat) : Decision :=
  if i.safeEntry then { Decision.plain .safe run with request := some .abandon }
  else if !i.snap.vehicle.drive then ⟨.stopping, .immediate, .parked, run, some .abandon⟩
  else if i.zoneEffective then ⟨.stopping, .immediate, .electric, run, some .abandon⟩
  else .plain .starting run

/-- An immediate stop cause holds (R66). -/
def ModeInput.immediateCause (i : ModeInput) : Bool :=
  i.safeEntry || i.zoneEffective || i.snap.engineFault || !i.snap.vehicle.drive

/-- The request of an immediate stop (R66). -/
def ModeInput.stopRequest (i : ModeInput) : Request := if i.snap.engineFault then .stopNoUnload else .stopUnload

/-- HYBRID and CHARGE (R66, R67, R68); `m` is the present mode. -/
def ModeInput.decideCoupled (i : ModeInput) (m : Mode) (run : Nat) : Decision :=
  if i.immediateCause then
    if i.safeEntry then ⟨.safe, .none, .none, 0, some i.stopRequest⟩
    else ⟨.stopping, .immediate, if i.snap.vehicle.drive then .electric else .parked, 0, some i.stopRequest⟩
  else if i.cal.stopDwell ≤ run then ⟨.stopping, .dwell, .electric, 0, some .stopUnload⟩
  else if m = .hybrid ∧ i.snap.battery.soc < i.cal.chargeOn then .plain .charge run
  else if m = .charge ∧ i.cal.chargeOff < i.snap.battery.soc then .plain .hybrid run
  else .plain m run

/-- The stop kind after R69's tests. -/
def ModeInput.stopKindNow (i : ModeInput) (k : StopKind) : StopKind :=
  if !i.snap.vehicle.drive || i.zoneEffective || i.snap.engineFault then .immediate else k

/-- The stop destination after R69's tests. -/
def ModeInput.stopDestNow (i : ModeInput) (d : StopDest) : StopDest := if !i.snap.vehicle.drive then .parked else d

/-- STOPPING: SAFE entry, then R69's tests, then the cancellation of R70. Where trigger (e) or (f) holds beside one of (a) to (d), as it
always does when SoC is at or below SoC reserve, which lies below SoC start, R70's first sentence cancels the stop and its last ones
say that the stop then continues; here the first sentence decides, and (e) and (f) neither cancel nor prevent (DESIGN CHOICE, log 24). -/
def ModeInput.decideStopping (i : ModeInput) (k : StopKind) (d : StopDest) (startRun run : Nat) : Decision :=
  if i.safeEntry then .plain .safe run
  else if i.seqState = .unload ∧ i.stopKindNow k = .dwell ∧ i.enginePath = true ∧ i.gatedTrigger startRun = true then
    { Decision.plain (coupledMode i.snap.battery.soc i.cal) run with request := some .cancel }
  else ⟨.stopping, i.stopKindNow k, i.stopDestNow d, run, none⟩

/-- SAFE (R72). -/
def ModeInput.decideSafe (i : ModeInput) (run : Nat) : Decision :=
  if i.snap.state.vehicle = .fresh ∧ (i.snap.electricPath || i.enginePath) = true ∧ i.snap.vehicle.drive = false
      ∧ i.seqState = .off then .plain .parked run
  else .plain .safe run

/-- The decision for the present mode (R52). -/
def ModeInput.decision (i : ModeInput) (k : StopKind) (d : StopDest) (startRun run : Nat) : Mode → Decision
  | .init => i.decideInit run
  | .parked => i.decideParked run
  | .electric => i.decideElectric startRun run
  | .starting => i.decideStarting run
  | .hybrid => i.decideCoupled .hybrid run
  | .charge => i.decideCoupled .charge run
  | .stopping => i.decideStopping k d startRun run
  | .safe => i.decideSafe run

/-- The cool-off cut: COOLING with the electric path unavailable and the engine source not LAPSED (R55, R87). R55 and R87 make it at once,
at MODE's decision stage, so a read of selector 4 that completes before SEQ's stage shows it, although R97 says that SEQ changes its
values at its own stage (DESIGN CHOICE, log 25). -/
def Seq.cutCoolOff (sn : Snapshot) (q : Seq) : Seq :=
  if q.avail = .cooling ∧ sn.electricPath = false ∧ sn.alive .engine = true then { q with avail := .available, coolOff := 0 }
  else q

/-- The input of the decision in a state (R52). -/
def State.modeInput (s : State) : ModeInput :=
  { snap := s.snap, nSel := s.spd.nSel, tmHi := s.record.tmHi, seqState := s.seq.state
    avail := (s.seq.cutCoolOff s.snap).avail, cal := s.cal.active }

/-- MODE's state after a decision and the two flags and runs of its evaluation (R52). -/
def ModeCtl.after (m : ModeCtl) (i : ModeInput) : ModeCtl × Option Request :=
  let sr := i.startRun m.startRun
  let d := i.decision m.stopKind m.stopDest sr (i.stopRun m.mode m.stopRun) m.mode
  ({ mode := d.mode, stopKind := d.kind, stopDest := d.dest, startRun := sr, stopRun := d.stopRun
     zoneOverruled := i.overruled, overrideConflict := i.conflict, electricPath := i.snap.electricPath }, d.request)

/-- Stage 4 of the operation: MODE's decision stage (R52). -/
def State.modeStage (s : State) : State :=
  if s.rstN = true ∧ s.stage = .mode then
    let i := s.modeInput
    let m := s.modeCtl.after i
    let s1 := { s with seq := s.seq.cutCoolOff s.snap, modeCtl := m.1, request := m.2, stage := .seq }
    (s1.broadcastIf (i.overruled && !s.modeCtl.zoneOverruled) .zoneOverruled).broadcastIf
      (i.conflict && !s.modeCtl.overrideConflict) .overrideConflict
  else s

/-- MODE_DECISION (R52). -/
def execModeDecision (s : State) : Outcome := .next s.modeStage

/-! ### The settling point -/

/-- What SEQ reports to MODE's settling point (R79). -/
inductive SeqOutcome where
  | startComplete | startShutDown | stopComplete | releaseTimeout | progress | none
deriving DecidableEq, Repr

/-- The mode that a stop destination names; NONE names none. -/
def StopDest.mode (m : Mode) : StopDest → Mode
  | .electric => .electric
  | .parked => .parked
  | .none => m

/-- MODE outside STOPPING: the stop kind and destination return to NONE (R51, Note 1). -/
def ModeCtl.settleTo (mode : Mode) (m : ModeCtl) : ModeCtl := { m with mode := mode, stopKind := .none, stopDest := .none }

/-- The settling point (R53, R65, R73): the outcome fixes the mode. SAFE stays SAFE. -/
def ModeCtl.settle (c : CalSet) (soc : Int) (o : SeqOutcome) (m : ModeCtl) : ModeCtl :=
  match o with
  | .startComplete => if m.mode = .starting then m.settleTo (coupledMode soc c) else m
  | .startShutDown =>
    if m.mode = .starting then { m with mode := .stopping, stopKind := .immediate, stopDest := .electric } else m
  | .stopComplete => if m.mode = .stopping then m.settleTo (m.stopDest.mode m.mode) else m
  | .releaseTimeout => m.settleTo .safe
  | .progress => m
  | .none => m

end Sys2Proof.Machine
end

