-- ==== Sys2Proof/Machine/Sequencer.lean ====
section
/-! DEFINITION. The engine sequencer SEQ: its stage (R79 to R95), followed by MODE's settling point (R53), and the commands
SEQUENCER_STAGE, CRANK_TIMEOUT, SYNC_TIMEOUT, CLUTCH_TIMEOUT, RELEASE_TIMEOUT, OFF_TIMEOUT and COOL_OFF_END. -/

namespace Sys2Proof.Machine

/-- The engine command of a sequencer state (R78). -/
def SeqState.engineCmd : SeqState → EngineCmd
  | .off => .off
  | .crankWait => .start
  | .speedSync => .sync
  | .clutchWait => .sync
  | .coupled => .run
  | .unload => .run
  | .clutchRelease => .run
  | .offWait => .stop

/-- The clutch command of a sequencer state (R78). -/
def SeqState.clutchCmd : SeqState → ClutchCmd
  | .off => .opened
  | .crankWait => .opened
  | .speedSync => .opened
  | .clutchWait => .close
  | .coupled => .close
  | .unload => .close
  | .clutchRelease => .opened
  | .offWait => .opened

/-- What SEQ's stage reads beside its own state: the snapshot, n_sel, the Te of the record before, the active set (R79). -/
structure SeqInput where
  snap : Snapshot
  nSel : Int
  te : Int
  cal : CalSet

/-- What SEQ's stage leaves: its state, the notices it raises, and the outcome it reports. -/
structure SeqStep where
  seq : Seq
  notices : List NoticeKind
  outcome : SeqOutcome
deriving DecidableEq, Repr

/-- Nothing more changes (R79). -/
def SeqStep.quiet (q : Seq) : SeqStep := ⟨q, [], .none⟩

/-- Entry to a state: its wait timer is loaded with its timeout row, or set to 0; the sync run is 0, and nothing of the wait is
spent (R80, R77 Note 3). -/
def Seq.enter (c : CalSet) (st : SeqState) (q : Seq) : Seq :=
  { q with state := st, timer := timeoutRow c st, syncRun := 0, spent := 0 }

/-- ENGINE_UNAVAILABLE is raised when the availability was not already UNAVAILABLE (R94). -/
def unavailableNotice (q : Seq) : List NoticeKind := if q.avail = .unavailable then [] else [.engineUnavailable]

/-- The engine becomes UNAVAILABLE for a recorded reason (R91 to R94). -/
def Seq.lose (why : LastReason) (q : Seq) : Seq := { q with avail := .unavailable, lastReason := why }

/-- The cool-off counter at a stage; at 0 the engine is AVAILABLE (R87). -/
def Seq.cool (q : Seq) : Seq :=
  if q.avail = .cooling then
    { q with coolOff := q.coolOff - 1, avail := if q.coolOff - 1 = 0 then .available else .cooling }
  else q

/-- A start fails: reason, attempt count, failure pending, and the shutdown it joins (R85). -/
def Seq.fail (c : CalSet) (why : LastReason) (q : Seq) : Seq :=
  Seq.enter c (if q.state = .clutchWait then .clutchRelease else .offWait)
    { q with lastReason := why, attempts := min (c.retryLimit + 1) (q.attempts + 1), failurePending := true }

/-- A failed start's step (R85). -/
def Seq.failStep (c : CalSet) (why : LastReason) (q : Seq) : SeqStep := ⟨q.fail c why, [.startFailed], .startShutDown⟩

/-- A change of state reported as progress (R79). -/
def Seq.advance (c : CalSet) (st : SeqState) (q : Seq) : SeqStep := ⟨q.enter c st, [], .progress⟩

/-- Arrival at OFF: the availability decision of R86 when a failure is pending, and stop complete (R92). -/
def Seq.reachOff (c : CalSet) (q : Seq) : SeqStep :=
  let q1 := { q.enter c .off with failurePending := false }
  if q.failurePending = true ∧ q.avail ≠ .unavailable then
    if q.attempts ≤ c.retryLimit then ⟨{ q1 with avail := .cooling, coolOff := c.coolOff }, [], .stopComplete⟩
    else ⟨{ q1 with avail := .unavailable }, [.engineUnavailable], .stopComplete⟩
  else ⟨q1, [], .stopComplete⟩

/-- The wait timer decreases by one, and one more period of the wait is spent; a timer at 0 is not decreased (R80). -/
def Seq.tick (q : Seq) : Seq := if q.timer = 0 then q else { q with timer := q.timer - 1, spent := q.spent + 1 }

/-- Without progress, this stage brings the wait timer to 0 (R80). -/
def Seq.expires (q : Seq) : Bool := q.timer == 1

/-- A snapshot is within the sync band (R83). -/
def SeqInput.inBand (i : SeqInput) : Bool :=
  i.snap.engine.state == .running && decide (((i.snap.engine.speed - i.nSel).natAbs : Int) ≤ i.cal.syncBand)

/-- The sync run after this snapshot (R83). -/
def SeqInput.syncRun (i : SeqInput) (q : Seq) : Nat := if i.inBand then min 50 (q.syncRun + 1) else 0

/-- The progress condition of a state on the snapshot (R82 to R84, R89, R90, R92). -/
def SeqInput.progresses (i : SeqInput) (q : Seq) : Bool :=
  match q.state with
  | .crankWait => i.snap.engine.state == .running
  | .speedSync => decide (i.cal.syncDwell ≤ i.syncRun q)
  | .clutchWait => i.snap.engine.clutch == .closed
  | .unload => i.te == 0
  | .clutchRelease => i.snap.engine.clutch == .opened && i.snap.alive .engine
  | .offWait => i.snap.engine.state == .off
  | .off => false
  | .coupled => false

/-- The restore condition (R95). -/
def SeqInput.restores (i : SeqInput) (q : Seq) : Bool :=
  q.avail == .unavailable && q.state == .off && i.snap.alive .engine && i.snap.engine.state == .off && i.snap.engine.ready

/-- A state's progress and timeout when neither a request nor a FAULT decides (R80, R82 to R84, R89 to R92, R95). -/
def SeqInput.wait (i : SeqInput) (q : Seq) : SeqStep :=
  match q.state with
  | .off =>
    if i.restores q then ⟨{ q with avail := .available, attempts := 0 }, [.engineRestored], .none⟩ else .quiet q
  | .coupled => .quiet q
  | .unload => if i.progresses q then q.advance i.cal .clutchRelease else .quiet q
  | .crankWait =>
    if i.progresses q then q.advance i.cal .speedSync
    else if q.expires then q.tick.failStep i.cal .crankTimeout
    else .quiet q.tick
  | .speedSync =>
    if i.progresses q then q.advance i.cal .clutchWait
    else if q.expires then q.tick.failStep i.cal .syncTimeout
    else .quiet { q.tick with syncRun := i.syncRun q }
  | .clutchWait =>
    if i.progresses q then ⟨{ q.enter i.cal .coupled with attempts := 0 }, [], .startComplete⟩
    else if q.expires then q.tick.failStep i.cal .clutchTimeout
    else .quiet q.tick
  | .clutchRelease =>
    if i.progresses q then q.advance i.cal .offWait
    else if q.expires then ⟨q.tick.lose .releaseTimeout, unavailableNotice q, .releaseTimeout⟩
    else .quiet q.tick
  | .offWait =>
    if i.progresses q then q.reachOff i.cal
    else if q.expires then
      let r := (q.lose .offTimeout).reachOff i.cal
      { r with notices := unavailableNotice q ++ r.notices }
    else .quiet q.tick

/-- The effect of MODE's request (R81, R88). A request in a state that the table of R81 does not list changes nothing. -/
def Seq.obey (c : CalSet) (r : Request) (q : Seq) : SeqStep :=
  match r, q.state with
  | .start, .off => q.advance c .crankWait
  | .abandon, .crankWait => { q.advance c .offWait with notices := [.startAbandoned] }
  | .abandon, .speedSync => { q.advance c .offWait with notices := [.startAbandoned] }
  | .abandon, .clutchWait => { q.advance c .clutchRelease with notices := [.startAbandoned] }
  | .stopUnload, .coupled => q.advance c .unload
  | .stopNoUnload, .coupled => q.advance c .clutchRelease
  | .cancel, .unload => q.advance c .coupled
  | _, _ => .quiet q

/-- A FAULT that decides the change of state; in CLUTCH_RELEASE and OFF_WAIT, and in OFF, progress and timeout act (R93). -/
def SeqInput.faulted (i : SeqInput) (q : Seq) : SeqStep :=
  match q.state with
  | .crankWait => q.failStep i.cal .fault
  | .speedSync => q.failStep i.cal .fault
  | .clutchWait => q.failStep i.cal .fault
  | .coupled => q.advance i.cal .clutchRelease
  | .unload => q.advance i.cal .clutchRelease
  | .clutchRelease => i.wait q
  | .offWait => i.wait q
  | .off => i.wait q

/-- A FAULT reading reaches the sequencer: the engine state reads FAULT and the state is not OFF (R93). -/
def SeqInput.faultReaches (i : SeqInput) (q : Seq) : Bool := i.snap.engineFault && q.state != .off

/-- SEQ's stage: cool-off, the FAULT's effect on availability, then one change of state, by request, FAULT or progress (R79). -/
def SeqInput.step (i : SeqInput) (r : Option Request) (q : Seq) : SeqStep :=
  let q1 := q.cool
  let hit := i.faultReaches q
  let q2 := if hit then q1.lose .fault else q1
  let n := if hit then unavailableNotice q1 else []
  let o := match r with
    | some x => q2.obey i.cal x
    | none => if hit then i.faulted q2 else i.wait q2
  { o with notices := n ++ o.notices }

/-- The input of SEQ's stage in a state (R79). -/
def State.seqInput (s : State) : SeqInput :=
  { snap := s.snap, nSel := s.spd.nSel, te := s.record.te, cal := s.cal.active }

/-- Stage 5 of the operation: SEQ's stage and MODE's settling point (R53, R79). -/
def State.seqStage (s : State) : State :=
  if s.rstN = true ∧ s.stage = .seq then
    let o := s.seqInput.step s.request s.seq
    o.notices.foldl (fun t k => t.broadcast k)
      { s with seq := o.seq, request := none, stage := .split
               modeCtl := s.modeCtl.settle s.cal.active s.snap.battery.soc o.outcome }
  else s

/-- SEQUENCER_STAGE (R79). -/
def execSequencerStage (s : State) : Outcome := .next s.seqStage

/-! ### The stage as a timeout or the end of a cool-off (log 8) -/

/-- The wait of a state times out at the stage that is due: no request, no FAULT that decides, no progress, and the timer at
its last period (R79, R80). -/
def State.timesOut (st : SeqState) (s : State) : Bool :=
  s.rstN && s.stage == .seq && s.seq.state == st && s.request == none && s.seq.expires
    && !s.seqInput.progresses s.seq && (!s.snap.engineFault || st == .clutchRelease || st == .offWait)

/-- SEQ's stage, when it is one at which the wait of a state times out. -/
def State.timeoutStage (st : SeqState) (s : State) : State := if s.timesOut st then s.seqStage else s

/-- CRANK_TIMEOUT (R82, R85). -/
def execCrankTimeout (s : State) : Outcome := .next (s.timeoutStage .crankWait)

/-- SYNC_TIMEOUT (R83, R85). -/
def execSyncTimeout (s : State) : Outcome := .next (s.timeoutStage .speedSync)

/-- CLUTCH_TIMEOUT (R84, R85). -/
def execClutchTimeout (s : State) : Outcome := .next (s.timeoutStage .clutchWait)

/-- RELEASE_TIMEOUT (R91). -/
def execReleaseTimeout (s : State) : Outcome := .next (s.timeoutStage .clutchRelease)

/-- OFF_TIMEOUT (R92). -/
def execOffTimeout (s : State) : Outcome := .next (s.timeoutStage .offWait)

/-- This stage brings the cool-off counter to 0 (R87). -/
def State.coolOffEnds (s : State) : Bool :=
  s.rstN && s.stage == .seq && s.seq.avail == .cooling && s.seq.coolOff - 1 == 0

/-- COOL_OFF_END (R87). -/
def execCoolOffEnd (s : State) : Outcome := .next (if s.coolOffEnds then s.seqStage else s)

end Sys2Proof.Machine
end

