-- ==== Sys2Proof/Machine/Split.lean ====
section
/-! DEFINITION. The split engine SPLIT: the eleven steps of R105 to R123 and the command SPLIT_STAGE. -/

namespace Sys2Proof.Machine

/-- What SPLIT's stage reads (R103). -/
structure SplitInput where
  snap : Snapshot
  nSel : Int
  nEff : Int
  mode : Mode
  seqState : SeqState
  decayRamp : Int
  rampE : Int
  rampM : Int
  cal : CalSet
  prev : SplitCtl

/-- The mode forces every grant to 0: INIT and PARKED (R105, R119). -/
def Mode.standing (m : Mode) : Bool := m == .init || m == .parked

/-- Step 1, the effective demand Td (R105, R106). -/
def SplitInput.td (i : SplitInput) : Int :=
  match i.mode with
  | .init => 0
  | .parked => 0
  | .safe => decay i.prev.prevTd i.decayRamp
  | .electric => i.snap.vehicle.demand
  | .starting => i.snap.vehicle.demand
  | .hybrid => i.snap.vehicle.demand
  | .charge => i.snap.vehicle.demand
  | .stopping => i.snap.vehicle.demand

/-- The discharge available to the motor, Ad (R107). -/
def SplitInput.ad (i : SplitInput) : Int := max 0 (i.snap.battery.pdis - i.snap.battery.paux)

/-- The charge the motor may return, Ac (R107). -/
def SplitInput.ac (i : SplitInput) : Int := i.snap.battery.pchg + i.snap.battery.paux

/-- The discharge torque limit, rounded down (R108). -/
def SplitInput.tDis (i : SplitInput) : Int := i.ad * i.cal.eta * 9549 / (10 * 1000 * i.nEff)

/-- The charge torque limit, rounded down (R108). -/
def SplitInput.tChg (i : SplitInput) : Int := i.ac * 1000 * 9549 / (10 * i.cal.eta * i.nEff)

/-- Step 3, the motor's upper bound (R109). -/
def SplitInput.tmHi (i : SplitInput) : Int := min (min i.snap.motor.motoring i.tDis) 1000

/-- Step 3, the motor's lower bound (R109). -/
def SplitInput.tmLo (i : SplitInput) : Int :=
  -min (min (min i.snap.motor.generating i.tChg) i.snap.vehicle.regenCap) 1000

/-- The commands of the record are RUN and CLOSE (R111). -/
def SplitInput.engaged (i : SplitInput) : Bool := i.seqState.engineCmd == .run && i.seqState.clutchCmd == .close

/-- Step 4, the engine's upper bound (R111). -/
def SplitInput.teHi (i : SplitInput) : Int := if i.engaged then i.snap.engine.maxTorque else 0

/-- Step 4, the engine's lower bound (R111). -/
def SplitInput.teLo (i : SplitInput) : Int := if i.engaged then -i.snap.engine.drag else 0

/-- A quotient rounded to nearest, ties away from zero, for a positive divisor (R113). -/
def roundNearest (a b : Int) : Int := if 0 ≤ a then (2 * a + b) / (2 * b) else -((2 * -a + b) / (2 * b))

/-- The interpolation from a row on: the value at the last row beyond it, else on the segment that holds x (R113). -/
def interpolateFrom (r : Row) : List Row → Int → Int
  | [], _ => r.y
  | q :: t, x => if x < q.x then r.y + roundNearest ((q.y - r.y) * (x - r.x)) (q.x - r.x) else interpolateFrom q t x

/-- Piecewise-linear interpolation of a table (R113). -/
def interpolate (rows : List Row) (x : Int) : Int :=
  match rows with
  | [] => 0
  | r :: t => if x ≤ r.x then r.y else interpolateFrom r t x

/-- Step 5, the engine wish (R112). -/
def SplitInput.teWant (i : SplitInput) : Int :=
  match i.mode with
  | .hybrid => interpolate i.cal.line.toList i.nSel
  | .charge => interpolate i.cal.line.toList i.nSel + interpolate i.cal.offset.toList i.snap.battery.soc
  | .init => 0
  | .parked => 0
  | .electric => 0
  | .starting => 0
  | .stopping => 0
  | .safe => 0

/-- Step 6, the wish clamped to the balance window (R115). -/
def SplitInput.teBal (i : SplitInput) : Int := clamp (i.td - i.tmHi) (i.td - i.tmLo) i.teWant

/-- A grant: the share clamped to the ramp window around the previous grant, then to the bounds (R116, R118). -/
def grant (prev ramp lo hi share : Int) : Int := clamp lo hi (clamp (prev - ramp) (prev + ramp) share)

/-- Step 7, the engine grant (R116, R119). -/
def SplitInput.te (i : SplitInput) : Int :=
  if i.mode.standing then 0 else grant i.prev.prevTe i.rampE i.teLo i.teHi i.teBal

/-- Step 8, the motor grant (R118, R119). -/
def SplitInput.tm (i : SplitInput) : Int :=
  if i.mode.standing then 0 else grant i.prev.prevTm i.rampM i.tmLo i.tmHi (i.td - i.te)

/-- Step 9, the remainder (R120). -/
def SplitInput.remainder (i : SplitInput) : Int := i.td - i.te - i.tm

/-- A quotient rounded up, for a positive divisor (R121). -/
def ceilDiv (a b : Int) : Int := -((-a) / b)

/-- Step 10, the motor power term, its magnitude rounded up (R121). -/
def SplitInput.motorTerm (i : SplitInput) : Int :=
  if 0 ≤ i.tm then ceilDiv (i.tm * i.nSel * 10 * 1000) (9549 * i.cal.eta)
  else -ceilDiv (-i.tm * i.nSel * 10 * i.cal.eta) (9549 * 1000)

/-- Step 10, the battery prediction (R121). -/
def SplitInput.pBatt (i : SplitInput) : Int := clamp (-3000) 3000 (i.motorTerm + i.snap.battery.paux)

/-- The results that SPLIT hands REC (R125). -/
def SplitInput.out (i : SplitInput) : SplitOut :=
  { td := i.td, te := i.te, tm := i.tm, tb := min 0 i.remainder, tu := max 0 i.remainder, tmHi := i.tmHi, tmLo := i.tmLo
    teHi := i.teHi, teLo := i.teLo, pBatt := i.pBatt, motorTerm := i.motorTerm, nSel := i.nSel }

/-- Step 11, the shortfall run and its armed flag, and whether SHORTFALL is raised (R123). -/
def SplitCtl.shortfall (dwell : Nat) (tu : Int) (c : SplitCtl) : SplitCtl × Bool :=
  if 0 < tu then
    let run := min 1000 (c.shortfallRun + 1)
    if dwell ≤ run ∧ c.armed = true then ({ c with shortfallRun := run, armed := false }, true)
    else ({ c with shortfallRun := run }, false)
  else ({ c with shortfallRun := 0, armed := true }, false)

/-- The input of SPLIT's stage in a state (R103). -/
def State.splitInput (s : State) : SplitInput :=
  { snap := s.snap, nSel := s.spd.nSel, nEff := s.spd.nEff, mode := s.modeCtl.mode, seqState := s.seq.state
    decayRamp := s.envCopy.vehicle.e2, rampE := s.envCopy.engine.e2, rampM := s.envCopy.motor.e2, cal := s.cal.active
    prev := s.split }

/-- Stage 6 of the operation (R99, R105 to R123). -/
def State.splitStage (s : State) : State :=
  if s.rstN = true ∧ s.stage = .split then
    let o := s.splitInput.out
    let c := s.split.shortfall s.cal.active.shortfallDwell o.tu
    State.broadcastIf c.2 .shortfall { s with split := c.1, splitOut := o, stage := .publish }
  else s

/-- SPLIT_STAGE (R103). -/
def execSplitStage (s : State) : Outcome := .next s.splitStage

end Sys2Proof.Machine
end

