-- ==== Sys2Proof/Machine/Records.lean ====
section
/-! DEFINITION. The record store REC: publication (R129 to R131, R54), the grant views (R134), the pages (R137 to R139), and the
commands PUBLICATION and EPOCH_PULSE_END. -/

namespace Sys2Proof.Machine

/-- The record that the operation in flight publishes (R128). -/
def State.newRecord (s : State) : SplitRecord :=
  { epoch := s.record.epoch + 1
    mode := s.modeCtl.mode
    seqState := s.seq.state
    engineCmd := s.seq.state.engineCmd
    clutchCmd := s.seq.state.clutchCmd
    electricAvail := s.modeCtl.electricPath
    engineAvail := s.seq.avail
    derating := s.snap.motor.derating
    origin := s.cal.origin
    td := s.splitOut.td
    te := s.splitOut.te
    tm := s.splitOut.tm
    tb := s.splitOut.tb
    tu := s.splitOut.tu
    tmHi := s.splitOut.tmHi
    tmLo := s.splitOut.tmLo
    teHi := s.splitOut.teHi
    teLo := s.splitOut.teLo
    nSel := s.splitOut.nSel
    pBatt := s.splitOut.pBatt
    motorTerm := s.splitOut.motorTerm }

/-- A publication raises MODE_CHANGED: the mode differs from the record before, or it is STARTING or STOPPING and the
sequencer state differs (R54). -/
def modeChange (old new : SplitRecord) : Bool :=
  new.mode != old.mode || ((new.mode == .starting || new.mode == .stopping) && new.seqState != old.seqState)

/-- Stage 7 of the operation: the record is replaced whole, SPLIT's previous copies are written, the EPOCH pulse begins
(R129). -/
def State.publishStage (s : State) : State :=
  if s.rstN = true ∧ s.stage = .publish then
    let r := s.newRecord
    State.broadcastIf (modeChange s.record r) .modeChanged
      { s with record := r, split := { s.split with prevTd := r.td, prevTe := r.te, prevTm := r.tm }
               epochPin := true, epochTimer := Config.epochPulse, stage := .idle }
  else s

/-- PUBLICATION (R129). -/
def execPublication (s : State) : Outcome := .next s.publishStage

/-- The EPOCH pin returns low (R131), however much of the pulse is left to run (DESIGN CHOICE, log 27). -/
def State.endPulse (s : State) : State := { s with epochPin := false, epochTimer := 0 }

/-- EPOCH_PULSE_END (R131). -/
def execEpochPulseEnd (s : State) : Outcome := .next s.endPulse

/-- A role's grant view of a record (R134). -/
def SplitRecord.view (r : SplitRecord) : Role → Words
  | .vehicle => ⟨r.epoch, r.modeWord, word r.tb, word r.tu⟩
  | .engine => ⟨r.epoch, r.commandWord, word r.te, word (if r.engineCmd = .sync then r.nSel else r.teHi)⟩
  | .motor => ⟨r.epoch, word r.tm, word r.tmHi, word r.tmLo⟩
  | .battery => ⟨r.epoch, r.modeWord, word r.pBatt, word r.motorTerm⟩

/-- READ_GRANT: the view of the port's role (R134). -/
def serveReadGrant (p : PortId) (s : State) : Served := ⟨s, .ok, s.record.view (s.ports.get p).role⟩

/-- A page of a record; there are four (R137, R139). -/
def SplitRecord.pageWords (r : SplitRecord) (page : Word) : Option Words :=
  if page = 0 then some ⟨r.epoch, r.modeWord, word r.td, word r.pBatt⟩
  else if page = 1 then some ⟨r.epoch, word r.te, word r.tm, word r.tb⟩
  else if page = 2 then some ⟨r.epoch, word r.tu, word r.tmHi, word r.tmLo⟩
  else if page = 3 then some ⟨r.epoch, word r.teHi, word r.teLo, word r.nSel⟩
  else none

/-- The state in which a port's page snapshot is fresh for a page: page 0 copies the record REC holds, no other page changes
the snapshot (R137, R138). -/
def State.refreshPage (p : PortId) (page : Word) (s : State) : State :=
  if page = 0 then s.setPort p { s.ports.get p with page := s.record } else s

/-- READ_SPLIT (R137 to R139). -/
def serveReadSplit (p : PortId) (w : Words) (s : State) : Served :=
  let s1 := s.refreshPage p w.w0
  match (s1.ports.get p).page.pageWords w.w0 with
  | some v => ⟨s1, .ok, v⟩
  | none => .refuse .badArgument s

end Sys2Proof.Machine
end

