-- ==== Sys2Proof/Machine/Link.lean ====
section
/-! DEFINITION. The port interface unit PIU: frames begun and completed (R175 to R182), admission by role (R179), dispatch (R180),
identification (R183), status reads (R184, R191), and the commands FRAME_BEGIN, FRAME_REFUSED and the 21 requests. -/

namespace Sys2Proof.Machine

/-! ### What the PIU itself serves, and status reads -/

/-- NOP (R183). -/
def serveNop (s : State) : Served := ⟨s, .ok, zeroWords⟩

/-- IDENTIFY (R183). -/
def serveIdentify (s : State) : Served :=
  ⟨s, .ok, ⟨Config.partCode, Config.revision, strapMap s.ports, Config.capacities⟩⟩

/-- Selectors 0 to 3: a source record (R191). -/
def State.sourceStatus (r : Role) (s : State) : Words :=
  let c := s.src.get r
  ⟨wordN (c.state.code + 4 * c.requal + 16 * bitNat c.clipped + 32 * bitNat c.counted), wordN c.fresh, wordN c.hold,
    word (s.env.get r).e3⟩

/-- The timer value of selector 4 (R97). -/
def Seq.timerValue (q : Seq) : Nat :=
  if q.state.waits then q.timer else if q.avail = .cooling then q.coolOff else 0

/-- Selector 4: the sequencer (R97, R191). -/
def State.seqStatus (s : State) : Words :=
  ⟨wordN s.seq.state.code, wordN s.seq.avail.code, wordN (256 * s.seq.attempts + s.seq.lastReason.code), wordN s.seq.timerValue⟩

/-- The run count of selector 5 (R50). -/
def Spd.runCount (u : Spd) : Nat :=
  match u.check with
  | .plausible => u.disagree
  | .implausible => u.agree

/-- The check state as a bit (R191). -/
def Check.code : Check → Nat
  | .plausible => 0
  | .implausible => 1

/-- Selector 5: the speed unit (R50, R191). -/
def State.speedStatus (s : State) : Words :=
  ⟨word s.spd.nPulse, word s.spd.nMotorUsed, wordN (s.spd.check.code + 2 * bitNat s.spd.absent), wordN s.spd.runCount⟩

/-- The status that a selector names; none above 10 (R184). It is the state as it stands at the read, with what another block's stage has
adjusted in it (log 25). -/
def State.status (sel : Word) (s : State) : Option Words :=
  if sel = 0 then some (s.sourceStatus .vehicle)
  else if sel = 1 then some (s.sourceStatus .engine)
  else if sel = 2 then some (s.sourceStatus .motor)
  else if sel = 3 then some (s.sourceStatus .battery)
  else if sel = 4 then some s.seqStatus
  else if sel = 5 then some s.speedStatus
  else if sel = 6 then some s.calStatus
  else if sel = 7 then some s.env.vehicle.words
  else if sel = 8 then some s.env.engine.words
  else if sel = 9 then some s.env.motor.words
  else if sel = 10 then some s.env.battery.words
  else none

/-- READ_STATUS (R184). -/
def serveReadStatus (w : Words) (s : State) : Served :=
  match s.status w.w0 with
  | some v => ⟨s, .ok, v⟩
  | none => .refuse .badArgument s

/-! ### Dispatch -/

/-- A dispatched request acts on the block that owns it (R180). -/
def serve (k : FrameKind) (p : PortId) (w : Words) (s : State) : Served :=
  match k with
  | .nop => serveNop s
  | .identify => serveIdentify s
  | .vehicleReport => serveReport .vehicle w s
  | .engineReport => serveReport .engine w s
  | .motorReport => serveReport .motor w s
  | .batteryReport => serveReport .battery w s
  | .declareVehicle => serveDeclare .vehicle w s
  | .declareEngine => serveDeclare .engine w s
  | .declareMotor => serveDeclare .motor w s
  | .declareBattery => serveDeclare .battery w s
  | .readGrant => serveReadGrant p s
  | .readSplit => serveReadSplit p w s
  | .readStatus => serveReadStatus w s
  | .readNotices => serveReadNotices p s
  | .clearNotices => serveClearNotices p w s
  | .setNoticeEnable => serveSetNoticeEnable p w s
  | .claim => serveClaim p s
  | .release => serveRelease p s
  | .loadRow => serveLoadRow p w s
  | .commit => serveCommit p s
  | .readRow => serveReadRow p w s

/-- A port's role is the one that a kind is bound to, or the kind is not bound (R179). -/
def roleAdmits (k : FrameKind) (r : Role) : Bool :=
  match boundRole k with
  | some b => b == r
  | none => true

/-- A frame of good length, CRC and kind: check 1 and check 5 of R176, then dispatch and answer (R179, R180). -/
def State.admitFrame (k : FrameKind) (p : PortId) (tag : Byte) (w : Words) (s : State) : State :=
  if (s.ports.get p).disabled then s.answer p ⟨.portDisabled, tag, zeroWords⟩
  else if roleAdmits k (s.ports.get p).role then
    let r := serve k p w s
    r.state.answer p ⟨r.result, tag, r.words⟩
  else (s.raiseOn p .roleMismatch).answer p ⟨.roleMismatch, tag, zeroWords⟩

/-- A frame's bits taken through the checks of R176, in order; what passes them is dispatched. -/
def State.complete (p : PortId) (bits : List Bool) (s : State) : State :=
  if (s.ports.get p).disabled then s.answer p ⟨.portDisabled, refusalTag bits, zeroWords⟩
  else match checkFrame bits with
    | .lengthError => (s.raiseOn p .frameError).answer p ⟨.lengthError, refusalTag bits, zeroWords⟩
    | .crcError => (s.raiseOn p .frameError).answer p ⟨.crcError, refusalTag bits, zeroWords⟩
    | .unknownKind => s.answer p ⟨.unknownKind, refusalTag bits, zeroWords⟩
    | .good k tag w => s.admitFrame k p tag w

/-- PSEL rises on a port. While RST_N is low the port ignores it (R192). While the port still waits for PSEL to rise after the
release, the rise only ends the wait (R197; log 5). Else a frame ends (R176). -/
def State.pselRises (p : PortId) (frame : State → State) (s : State) : State :=
  if s.rstN then
    if (s.ports.get p).pselWait then s.setPort p { s.ports.get p with pselWait := false } else frame s
  else s

/-- A frame of a kind with 88 bits and a good CRC completes on a port (R176, R180). -/
def State.goodFrame (k : FrameKind) (p : PortId) (tag : Byte) (w : Words) (s : State) : State :=
  s.pselRises p (fun t => (t.frameEnds p (requestBits k tag w)).admitFrame k p tag w)

/-- A frame that carried any bits at all completes on a port (R176). -/
def State.rawFrame (p : PortId) (bits : List Bool) (s : State) : State :=
  s.pselRises p (fun t => (t.frameEnds p bits).complete p bits)

/-- PSEL falls on a port: an empty receive buffer, transmit position 0 (R175); a port that waits for PSEL to rise, and the part
in reset, ignore it (R192, R197). -/
def State.pselFalls (p : PortId) (s : State) : State :=
  if s.rstN = true ∧ (s.ports.get p).pselWait = false then
    s.setPort p { s.ports.get p with inFrame := true, rx := [], rxCount := 0, txPos := 0 }
  else s

/-! ### The commands -/

/-- FRAME_BEGIN (R175). -/
def execFrameBegin (p : PortId) (s : State) : Outcome := .next (s.pselFalls p)

/-- FRAME_REFUSED (R176). A frame that passes every check is served as the request it is (log 12). -/
def execFrameRefused (p : PortId) (bytes : List Byte) (extra : List Bool) (s : State) : Outcome :=
  .next (s.rawFrame p (refusedBits bytes extra))

/-- RESET_PSEL_WAIT_END (R197): the rise ends the wait and nothing else. -/
def execResetPselWaitEnd (p : PortId) (s : State) : Outcome := .next (s.pselRises p id)

/-- NOP (R183). -/
def execNop (p : PortId) (tag : Byte) (w : Words) (s : State) : Outcome := .next (s.goodFrame .nop p tag w)
/-- IDENTIFY (R183). -/
def execIdentify (p : PortId) (tag : Byte) (w : Words) (s : State) : Outcome := .next (s.goodFrame .identify p tag w)
/-- VEHICLE_REPORT (R3). -/
def execVehicleReport (p : PortId) (tag : Byte) (w : Words) (s : State) : Outcome := .next (s.goodFrame .vehicleReport p tag w)
/-- ENGINE_REPORT (R3). -/
def execEngineReport (p : PortId) (tag : Byte) (w : Words) (s : State) : Outcome := .next (s.goodFrame .engineReport p tag w)
/-- MOTOR_REPORT (R3). -/
def execMotorReport (p : PortId) (tag : Byte) (w : Words) (s : State) : Outcome := .next (s.goodFrame .motorReport p tag w)
/-- BATTERY_REPORT (R3). -/
def execBatteryReport (p : PortId) (tag : Byte) (w : Words) (s : State) : Outcome := .next (s.goodFrame .batteryReport p tag w)
/-- DECLARE_VEHICLE (R26). -/
def execDeclareVehicle (p : PortId) (tag : Byte) (w : Words) (s : State) : Outcome := .next (s.goodFrame .declareVehicle p tag w)
/-- DECLARE_ENGINE (R26). -/
def execDeclareEngine (p : PortId) (tag : Byte) (w : Words) (s : State) : Outcome := .next (s.goodFrame .declareEngine p tag w)
/-- DECLARE_MOTOR (R26). -/
def execDeclareMotor (p : PortId) (tag : Byte) (w : Words) (s : State) : Outcome := .next (s.goodFrame .declareMotor p tag w)
/-- DECLARE_BATTERY (R26). -/
def execDeclareBattery (p : PortId) (tag : Byte) (w : Words) (s : State) : Outcome := .next (s.goodFrame .declareBattery p tag w)
/-- READ_GRANT (R134). -/
def execReadGrant (p : PortId) (tag : Byte) (w : Words) (s : State) : Outcome := .next (s.goodFrame .readGrant p tag w)
/-- READ_SPLIT (R137). -/
def execReadSplit (p : PortId) (tag : Byte) (w : Words) (s : State) : Outcome := .next (s.goodFrame .readSplit p tag w)
/-- READ_STATUS (R184). -/
def execReadStatus (p : PortId) (tag : Byte) (w : Words) (s : State) : Outcome := .next (s.goodFrame .readStatus p tag w)
/-- READ_NOTICES (R166). -/
def execReadNotices (p : PortId) (tag : Byte) (w : Words) (s : State) : Outcome := .next (s.goodFrame .readNotices p tag w)
/-- CLEAR_NOTICES (R167). -/
def execClearNotices (p : PortId) (tag : Byte) (w : Words) (s : State) : Outcome := .next (s.goodFrame .clearNotices p tag w)
/-- SET_NOTICE_ENABLE (R168). -/
def execSetNoticeEnable (p : PortId) (tag : Byte) (w : Words) (s : State) : Outcome := .next (s.goodFrame .setNoticeEnable p tag w)
/-- CLAIM (R145). -/
def execClaim (p : PortId) (tag : Byte) (w : Words) (s : State) : Outcome := .next (s.goodFrame .claim p tag w)
/-- RELEASE (R146). -/
def execRelease (p : PortId) (tag : Byte) (w : Words) (s : State) : Outcome := .next (s.goodFrame .release p tag w)
/-- LOAD_ROW (R149). -/
def execLoadRow (p : PortId) (tag : Byte) (w : Words) (s : State) : Outcome := .next (s.goodFrame .loadRow p tag w)
/-- COMMIT (R152). -/
def execCommit (p : PortId) (tag : Byte) (w : Words) (s : State) : Outcome := .next (s.goodFrame .commit p tag w)
/-- READ_ROW (R151). -/
def execReadRow (p : PortId) (tag : Byte) (w : Words) (s : State) : Outcome := .next (s.goodFrame .readRow p tag w)

end Sys2Proof.Machine
end

