-- ==== Sys2Proof/Machine/Reset.lean ====
section
/-! DEFINITION. The reset pin: RST_N_ASSERTED (R192) and RST_N_RELEASED (R193, R194, R197). -/

namespace Sys2Proof.Machine

/-- A port while RST_N is low: everything at its reset value; the role and the disabled flag wait for the next release and
keep their last values until then (R174, R192; log 16). -/
def Port.inReset (q : Port) : Port := .reset q.role q.disabled false

/-- Every block at its reset value, RST_N low (R192). The queue of waiting commands and the SPD pin are not the part's own. -/
def State.assertReset (s : State) : State :=
  { rstN := false, spdPin := s.spdPin, epochPin := false, epochTimer := 0, tmr := Config.periodReload
    sampleDiv := Config.sampleReload
    ports := ⟨s.ports.p0.inReset, s.ports.p1.inReset, s.ports.p2.inReset, s.ports.p3.inReset⟩
    src := .all .reset, heldVals := .reset, snap := .reset, snapDone := .all false
    env := .all .reset, envCopy := .all .reset, spd := .reset s.spdPin, modeCtl := .reset, request := none, seq := .reset
    split := .reset, splitOut := .reset, stage := .idle, record := .reset, cal := .reset, ntc := .all .reset
    pending := s.pending }

/-- RST_N_ASSERTED (R192). -/
def execRstNAsserted (s : State) : Outcome := .next s.assertReset

/-- A lower-numbered port already holds a port's role (R194). -/
def roleTaken (r : PerPort Role) : PerPort Bool :=
  ⟨false, r.p1 == r.p0, r.p2 == r.p0 || r.p2 == r.p1, r.p3 == r.p0 || r.p3 == r.p1 || r.p3 == r.p2⟩

/-- The release, one act: roles and disabled flags from the straps, the filtered level from the SPD pin, the clocks started,
and a wait on every port whose PSEL is low (R193, R194, R197). -/
def State.releaseReset (straps : PerPort StrapPins) (spd : Bool) (pselLow : PerPort Bool) (s : State) : State :=
  if s.rstN then s
  else
    let r : PerPort Role := ⟨strapRole straps.p0, strapRole straps.p1, strapRole straps.p2, strapRole straps.p3⟩
    let d := roleTaken r
    { s with rstN := true, spdPin := spd, tmr := Config.periodReload, sampleDiv := Config.sampleReload
             spd := { s.spd with filtered := spd }
             ports := ⟨{ s.ports.p0 with role := r.p0, disabled := d.p0, pselWait := pselLow.p0 },
                       { s.ports.p1 with role := r.p1, disabled := d.p1, pselWait := pselLow.p1 },
                       { s.ports.p2 with role := r.p2, disabled := d.p2, pselWait := pselLow.p2 },
                       { s.ports.p3 with role := r.p3, disabled := d.p3, pselWait := pselLow.p3 }⟩ }

/-- RST_N_RELEASED (R193). -/
def execRstNReleased (straps : PerPort StrapPins) (spd : Bool) (pselLow : PerPort Bool) (s : State) : Outcome :=
  .next (s.releaseReset straps spd pselLow)

end Sys2Proof.Machine
end

