-- ==== Sys2Proof/Machine/Clock.lean ====
section
/-! DEFINITION. One REFCLK cycle, which is what a step on an empty queue is (DESIGN CHOICE, log 2): the EPOCH pulse timer (R131),
the stage of the operation in flight (R99), the sample clock (chapter 3.2) and the period timer (R196). -/

namespace Sys2Proof.Machine

/-- The EPOCH pulse runs out after its cycles (R131). -/
def State.clockEpoch (s : State) : State :=
  if s.epochPin then (if s.epochTimer ≤ 1 then s.endPulse else { s with epochTimer := s.epochTimer - 1 }) else s

/-- The next stage of the operation in flight (R99). -/
def State.clockStage (s : State) : State :=
  match s.stage with
  | .idle => s
  | .src => s.snapshotStage
  | .spd => s.speedStage
  | .mode => s.modeStage
  | .seq => s.seqStage
  | .split => s.splitStage
  | .publish => s.publishStage

/-- The sample clock; the pin keeps the level it was last seen at (chapter 3.2). -/
def State.clockSample (s : State) : State :=
  if s.sampleDiv ≤ 1 then s.samplePin s.spdPin else { s with sampleDiv := s.sampleDiv - 1 }

/-- The period timer; at its expiry the boundary (R196). -/
def State.clockTimer (s : State) : State :=
  if s.tmr ≤ 1 then s.beginPeriod s.spdPin else { s with tmr := s.tmr - 1 }

/-- One REFCLK cycle; nothing runs while RST_N is low (R192, R196). -/
def State.clock (s : State) : State :=
  if s.rstN then s.clockEpoch.clockStage.clockSample.clockTimer else s

end Sys2Proof.Machine
end

