-- ==== Sys2Proof/Machine/Dispatch.lean ====
section
/-! DEFINITION. One arm for each command, each one direct call of its meaning. -/

namespace Sys2Proof.Machine

/-- The effect of a command on everything but the queue. -/
def exec (i : Instr) (s : State) : Host.Outcome State Fault Refusal :=
  match i with
  | .rstNAsserted => Sys2Proof.Machine.execRstNAsserted s
  | .rstNReleased straps spd pselLow => Sys2Proof.Machine.execRstNReleased straps spd pselLow s
  | .resetPselWaitEnd p => Sys2Proof.Machine.execResetPselWaitEnd p s
  | .frameBegin p => Sys2Proof.Machine.execFrameBegin p s
  | .frameRefused p bytes extra => Sys2Proof.Machine.execFrameRefused p bytes extra s
  | .nop p tag w => Sys2Proof.Machine.execNop p tag w s
  | .identify p tag w => Sys2Proof.Machine.execIdentify p tag w s
  | .vehicleReport p tag w => Sys2Proof.Machine.execVehicleReport p tag w s
  | .engineReport p tag w => Sys2Proof.Machine.execEngineReport p tag w s
  | .motorReport p tag w => Sys2Proof.Machine.execMotorReport p tag w s
  | .batteryReport p tag w => Sys2Proof.Machine.execBatteryReport p tag w s
  | .declareVehicle p tag w => Sys2Proof.Machine.execDeclareVehicle p tag w s
  | .declareEngine p tag w => Sys2Proof.Machine.execDeclareEngine p tag w s
  | .declareMotor p tag w => Sys2Proof.Machine.execDeclareMotor p tag w s
  | .declareBattery p tag w => Sys2Proof.Machine.execDeclareBattery p tag w s
  | .readGrant p tag w => Sys2Proof.Machine.execReadGrant p tag w s
  | .readSplit p tag w => Sys2Proof.Machine.execReadSplit p tag w s
  | .readStatus p tag w => Sys2Proof.Machine.execReadStatus p tag w s
  | .readNotices p tag w => Sys2Proof.Machine.execReadNotices p tag w s
  | .clearNotices p tag w => Sys2Proof.Machine.execClearNotices p tag w s
  | .setNoticeEnable p tag w => Sys2Proof.Machine.execSetNoticeEnable p tag w s
  | .claim p tag w => Sys2Proof.Machine.execClaim p tag w s
  | .release p tag w => Sys2Proof.Machine.execRelease p tag w s
  | .loadRow p tag w => Sys2Proof.Machine.execLoadRow p tag w s
  | .commit p tag w => Sys2Proof.Machine.execCommit p tag w s
  | .readRow p tag w => Sys2Proof.Machine.execReadRow p tag w s
  | .periodBoundary spd => Sys2Proof.Machine.execPeriodBoundary spd s
  | .snapshot => Sys2Proof.Machine.execSnapshot s
  | .freshnessExpiry r => Sys2Proof.Machine.execFreshnessExpiry r s
  | .holdExpiry r => Sys2Proof.Machine.execHoldExpiry r s
  | .requalifyExpiry r => Sys2Proof.Machine.execRequalifyExpiry r s
  | .spdSample level => Sys2Proof.Machine.execSpdSample level s
  | .speedUnitStage => Sys2Proof.Machine.execSpeedUnitStage s
  | .modeDecision => Sys2Proof.Machine.execModeDecision s
  | .sequencerStage => Sys2Proof.Machine.execSequencerStage s
  | .crankTimeout => Sys2Proof.Machine.execCrankTimeout s
  | .syncTimeout => Sys2Proof.Machine.execSyncTimeout s
  | .clutchTimeout => Sys2Proof.Machine.execClutchTimeout s
  | .releaseTimeout => Sys2Proof.Machine.execReleaseTimeout s
  | .offTimeout => Sys2Proof.Machine.execOffTimeout s
  | .coolOffEnd => Sys2Proof.Machine.execCoolOffEnd s
  | .splitStage => Sys2Proof.Machine.execSplitStage s
  | .publication => Sys2Proof.Machine.execPublication s
  | .epochPulseEnd => Sys2Proof.Machine.execEpochPulseEnd s

end Sys2Proof.Machine
end

