-- ==== Sys2Proof/Safety.lean ====
section
/-! DEFINITION. What statements about the part are said in: when a port takes a frame's end, what a completed frame does to the
PIU, and the invariants that a safe run keeps. -/

namespace Sys2Proof.Machine

/-! ### Ports -/

/-- A port's number. -/
def portNumber : PortId → Nat
  | .p0 => 0
  | .p1 => 1
  | .p2 => 2
  | .p3 => 3

/-- A frame can complete on a port: RST_N is high and the port does not wait for PSEL to rise after the release (R197). -/
def State.Live (s : State) (p : PortId) : Prop := s.rstN = true ∧ (s.ports.get p).pselWait = false

/-- A port is not disabled (R194). -/
def State.Enabled (s : State) (p : PortId) : Prop := (s.ports.get p).disabled = false

/-- A kind is admitted on a port: the port is live and enabled, and a report or DECLARE kind is of its role (R179). -/
def State.Admits (s : State) (k : FrameKind) (p : PortId) : Prop :=
  s.Live p ∧ s.Enabled p ∧ ∀ r, boundRole k = some r → (s.ports.get p).role = r

/-- A frame of these bits has completed on port `p` with this answer, and `page` is the port's page snapshot: the PIU's items
of R174 take what the frame left, of more than 88 bits the first 88 (log 26), and no other port changes (R175, R176, R181, R185). -/
def FrameDone (p : PortId) (bits : List Bool) (answer : Response) (page : SplitRecord) (s t : State) : Prop :=
  t.ports.get p =
      { s.ports.get p with inFrame := false, rx := bits.take 88, rxCount := bits.length, txPos := min 88 bits.length
                           sent := shiftedOut (s.ports.get p).held bits.length, held := answer, page := page }
    ∧ ∀ q, q ≠ p → t.ports.get q = s.ports.get q

/-- A good frame of a kind has completed on port `p` with this answer, its page snapshot as it was. -/
def Answered (k : FrameKind) (p : PortId) (tag : Byte) (w : Words) (result : ResultCode) (words : Words) (s t : State) : Prop :=
  FrameDone p (requestBits k tag w) ⟨result, tag, words⟩ (s.ports.get p).page s t

/-! ### Notices, commands and runs of commands -/

/-- These kinds have been raised, in this order, on every enabled port and on no other (R163, R164). -/
def Raised (ks : List NoticeKind) (s t : State) : Prop :=
  ∀ q, t.ntc.get q =
    if (s.ports.get q).disabled then s.ntc.get q else ks.foldl (fun n k => n.raise k) (s.ntc.get q)

/-- These kinds have been raised, in this order, on port `p` and on no other (R164). -/
def RaisedOn (p : PortId) (ks : List NoticeKind) (s t : State) : Prop :=
  t.ntc.get p = ks.foldl (fun n k => n.raise k) (s.ntc.get p) ∧ ∀ q, q ≠ p → t.ntc.get q = s.ntc.get q

/-- The port that a command concerns: PSEL moves on it. The stages, the expiries, the samples and RST_N concern no port. -/
def port : Instr → Option PortId
  | .resetPselWaitEnd p => some p
  | .frameBegin p => some p
  | .frameRefused p _ _ => some p
  | .nop p _ _ => some p
  | .identify p _ _ => some p
  | .vehicleReport p _ _ => some p
  | .engineReport p _ _ => some p
  | .motorReport p _ _ => some p
  | .batteryReport p _ _ => some p
  | .declareVehicle p _ _ => some p
  | .declareEngine p _ _ => some p
  | .declareMotor p _ _ => some p
  | .declareBattery p _ _ => some p
  | .readGrant p _ _ => some p
  | .readSplit p _ _ => some p
  | .readStatus p _ _ => some p
  | .readNotices p _ _ => some p
  | .clearNotices p _ _ => some p
  | .setNoticeEnable p _ _ => some p
  | .claim p _ _ => some p
  | .release p _ _ => some p
  | .loadRow p _ _ => some p
  | .commit p _ _ => some p
  | .readRow p _ _ => some p
  | .rstNAsserted => none
  | .rstNReleased _ _ _ => none
  | .periodBoundary _ => none
  | .snapshot => none
  | .freshnessExpiry _ => none
  | .holdExpiry _ => none
  | .requalifyExpiry _ => none
  | .spdSample _ => none
  | .speedUnitStage => none
  | .modeDecision => none
  | .sequencerStage => none
  | .crankTimeout => none
  | .syncTimeout => none
  | .clutchTimeout => none
  | .releaseTimeout => none
  | .offTimeout => none
  | .coolOffEnd => none
  | .splitStage => none
  | .publication => none
  | .epochPulseEnd => none

/-- A command that a frame or PSEL makes, as against one of RST_N, a clock or a stage. -/
def fromPort (c : Instr) : Prop := port c ≠ none

/-- These commands, one after another, lead from `s` to `t`. -/
def Runs : List Instr → State → State → Prop
  | [], s, t => t = s
  | c :: cs, s, t => ∃ u, exec c s = .next u ∧ Runs cs u t

/-- This many steps lead from `s` to `t`. -/
def Steps : Nat → State → State → Prop
  | 0, s, t => t = s
  | n + 1, s, t => ∃ u, step s = .next u ∧ Steps n u t

/-- The stages of an operation after the first (R99). -/
def laterStages : List Instr :=
  [.snapshot, .speedUnitStage, .modeDecision, .sequencerStage, .splitStage, .publication]

/-- The report kind of a role (R3). -/
def reportKind : Role → FrameKind
  | .vehicle => .vehicleReport
  | .engine => .engineReport
  | .motor => .motorReport
  | .battery => .batteryReport

/-- The DECLARE kind of a role (R26). -/
def declareKind : Role → FrameKind
  | .vehicle => .declareVehicle
  | .engine => .declareEngine
  | .motor => .declareMotor
  | .battery => .declareBattery

/-! ### The conditions of chapter 4, as its rules word them, where MODE's decision stage is due -/

/-- A source is not LAPSED in the snapshot (R22, R56). -/
def State.Present (s : State) (r : Role) : Prop := s.snap.state.get r = .fresh ∨ s.snap.state.get r = .aged

/-- The electric path is available (R56). -/
def State.ElectricPath (s : State) : Prop := s.Present .motor ∧ s.Present .battery

/-- The engine path is available, after the cool-off cut of R55 (R56). -/
def State.EnginePath (s : State) : Prop :=
  s.Present .engine ∧ (s.seq.avail = .available ∨ (s.seq.avail = .cooling ∧ ¬ s.ElectricPath))

/-- A reserve breach holds (R57). -/
def State.Breach (s : State) : Prop := s.snap.battery.soc ≤ s.cal.active.socReserve ∨ ¬ s.ElectricPath

/-- The zone is effective (R57). -/
def State.ZoneEffective (s : State) : Prop := s.snap.vehicle.zone = true ∧ ¬ s.Breach

/-- The SAFE entry conditions (R71). -/
def State.SafeEntry (s : State) : Prop := ¬ s.Present .vehicle ∨ (¬ s.ElectricPath ∧ ¬ s.EnginePath)

/-- The start dwell run with this snapshot: counted on while the demand start condition holds, stopping at 500, else 0 (R59). -/
def State.startRunNow (s : State) : Nat :=
  if s.cal.active.startFraction * s.record.tmHi / 1000 < s.snap.vehicle.demand then min 500 (s.modeCtl.startRun + 1) else 0

/-- The dwell stop condition (R60). -/
def State.DwellStop (s : State) : Prop :=
  s.cal.active.socStop ≤ s.snap.battery.soc ∧ s.snap.vehicle.demand < s.cal.active.stopFraction * s.record.tmHi / 1000
    ∧ s.spd.nSel < s.cal.active.ceiling - s.cal.active.ceilingHyst ∧ s.snap.engine.force = false ∧ s.ElectricPath

/-- One of triggers (a) to (d) counts, the zone not being effective (R63). -/
def State.GatedTrigger (s : State) : Prop :=
  ¬ s.ZoneEffective
    ∧ (s.snap.battery.soc ≤ s.cal.active.socStart
      ∨ s.cal.active.startDwell ≤ s.startRunNow ∨ s.cal.active.ceiling < s.spd.nSel ∨ s.snap.engine.force = true)

/-- A start trigger holds (R63). -/
def State.Trigger (s : State) : Prop :=
  s.GatedTrigger ∨ ¬ s.ElectricPath ∨ s.snap.battery.soc ≤ s.cal.active.socReserve

/-- An immediate stop cause holds in HYBRID or CHARGE (R66). -/
def State.ImmediateStop (s : State) : Prop :=
  s.SafeEntry ∨ s.ZoneEffective ∨ s.snap.engine.state = .fault ∨ s.snap.vehicle.drive = false

/-- HYBRID or CHARGE, by the snapshot SoC against SoC charge-on (R53, R70). -/
def State.coupledMode (s : State) : Mode := if s.snap.battery.soc < s.cal.active.chargeOn then .charge else .hybrid

/-! ### The waits of the sequencer (R80 to R84, R90 to R93) -/

/-- The sync run with this snapshot: counted on, stopping at 50, while the engine is RUNNING within the sync band of n_sel, else 0
(R83). -/
def SeqInput.runNow (i : SeqInput) (run : Nat) : Nat :=
  if i.snap.engine.state = .running ∧ |i.snap.engine.speed - i.nSel| ≤ i.cal.syncBand then min 50 (run + 1) else 0

/-- The snapshot leaves the wait of a state as it is: its progress condition does not hold, and no FAULT decides (R82 to R84, R90,
R92). A FAULT decides in the three start states alone (R93). The other states are no waits. -/
def SeqInput.Stands (i : SeqInput) (run : Nat) : SeqState → Prop
  | .crankWait => i.snap.engine.state = .off ∨ i.snap.engine.state = .cranking
  | .speedSync => i.snap.engine.state ≠ .fault ∧ i.runNow run < i.cal.syncDwell
  | .clutchWait => i.snap.engine.state ≠ .fault ∧ i.snap.engine.clutch ≠ .closed
  | .clutchRelease =>
    ¬ (i.snap.engine.clutch = .opened ∧ (i.snap.state.engine = .fresh ∨ i.snap.state.engine = .aged))
  | .offWait => i.snap.engine.state ≠ .off
  | .off => False
  | .coupled => False
  | .unload => False

/-- The timeout row that governs a wait state (R80). -/
def CalSet.timeoutOf (c : CalSet) : SeqState → Nat
  | .crankWait => c.crankTimeout
  | .speedSync => c.syncTimeout
  | .clutchWait => c.clutchTimeout
  | .clutchRelease => c.clutchTimeout
  | .offWait => c.offTimeout
  | .off => 0
  | .coupled => 0
  | .unload => 0

/-- The modes that the record after a record of a mode may carry (R61 to R73). -/
def nextModes : Mode → List Mode
  | .init => [.init, .parked]
  | .parked => [.parked, .electric, .safe]
  | .electric => [.electric, .parked, .starting, .safe]
  | .starting => [.starting, .hybrid, .charge, .stopping, .safe]
  | .hybrid => [.hybrid, .charge, .stopping, .safe]
  | .charge => [.charge, .hybrid, .stopping, .safe]
  | .stopping => [.stopping, .electric, .parked, .hybrid, .charge, .safe]
  | .safe => [.safe, .parked]

/-! ### Packed words (R190, R191) -/

/-- A word is the mode word of a record (R190). -/
def ModeWord (r : SplitRecord) (m : Word) : Prop :=
  m.toNat % 8 = r.mode.code ∧ m.toNat / 8 % 8 = r.seqState.code ∧ m.getLsbD 6 = r.electricAvail
    ∧ m.toNat / 128 % 4 = r.engineAvail.code ∧ m.getLsbD 9 = r.derating ∧ m.getLsbD 10 = decide (r.origin = .loaded)
    ∧ m.toNat < 2048

/-- A word is the command word of a record (R190). -/
def CommandWord (r : SplitRecord) (m : Word) : Prop :=
  m.toNat % 8 = r.engineCmd.code ∧ m.getLsbD 3 = decide (r.clutchCmd = .close) ∧ m.toNat / 16 = r.mode.code

/-- Four words are the calibration status of a state (R159, R191). -/
def CalStatus (s : State) (w : Words) : Prop :=
  w.w0.getLsbD 0 = decide (s.cal.origin = .loaded)
    ∧ (w.w0.getLsbD 1 = true ↔ ∃ c, s.cal.claim = some c ∧ c.pending = true) ∧ w.w0.toNat < 4
    ∧ w.w1 = BitVec.ofNat 16 s.cal.commitCount ∧ w.w2.toNat = s.cal.lastRejection.code
    ∧ (s.cal.claim = none → w.w3 = 0)
    ∧ ∀ c, s.cal.claim = some c → w.w3.toNat = 4 + (s.ports.get c.holder).role.code

/-! ### Mode and sequencer pairs (chapter 4.1) -/

/-- The pairs of mode and sequencer state in which a published record stands. For SAFE the table of chapter 4.1 says "any"; a start
is abandoned and a coupled engine stopped in the operation that enters SAFE (R64, R66), which leaves the four states here. -/
def pairOk : Mode → SeqState → Bool
  | .init, q => q == .off
  | .parked, q => q == .off
  | .electric, q => q == .off
  | .starting, q => q == .crankWait || q == .speedSync || q == .clutchWait
  | .hybrid, q => q == .coupled
  | .charge, q => q == .coupled
  | .stopping, q => q == .unload || q == .clutchRelease || q == .offWait
  | .safe, q => q == .off || q == .unload || q == .clutchRelease || q == .offWait

/-- The start states of the sequencer (chapter 5.1). -/
def SeqState.starts (q : SeqState) : Bool := q == .crankWait || q == .speedSync || q == .clutchWait

/-- Between MODE's decision and SEQ's stage: the mode decided, the request and the sequencer state that fit (R52, R81). -/
def handedOk (m : Mode) (q : SeqState) (fault : Bool) : Option Request → Bool
  | none => pairOk m q && !(m.coupled && fault)
  | some .start => m == .starting && q == .off
  | some .abandon => (m == .safe || m == .stopping) && q.starts
  | some .stopUnload => (m == .safe || m == .stopping) && q == .coupled
  | some .stopNoUnload => (m == .safe || m == .stopping) && q == .coupled
  | some .cancel => m.coupled && q == .unload

/-- The pairs hold: in the published record, in MODE and SEQ between operations and at every stage of one, with the commands
of R78; STOPPING always has a stop kind and a destination, and no other mode has either (R51, Note 1). -/
structure State.Paired (s : State) : Prop where
  record : pairOk s.record.mode s.record.seqState = true
  commands : s.record.engineCmd = s.record.seqState.engineCmd ∧ s.record.clutchCmd = s.record.seqState.clutchCmd
  handed : s.stage = .seq → handedOk s.modeCtl.mode s.seq.state s.snap.engineFault s.request = true
  settled : s.stage ≠ .seq → pairOk s.modeCtl.mode s.seq.state = true
  stop : if s.modeCtl.mode = .stopping then s.modeCtl.stopKind ≠ .none ∧ s.modeCtl.stopDest ≠ .none
    else s.modeCtl.stopKind = .none ∧ s.modeCtl.stopDest = .none

/-! ### The sequencer's own notes (R77, R86) -/

/-- What the notes of R77 and R86 say of SEQ's counters; the time spent is a wait's own (log 23). -/
structure State.SeqNotes (s : State) : Prop where
  timer : s.seq.timer ≠ 0 → s.seq.state.waits = true
  spent : s.seq.spent ≠ 0 → s.seq.state.waits = true
  syncRun : s.seq.syncRun ≠ 0 → s.seq.state = .speedSync
  coolOff : s.seq.coolOff ≠ 0 → s.seq.avail = .cooling
  cooling : s.seq.avail = .cooling → s.seq.state = .off
  attempts : s.seq.attempts ≤ s.cal.active.retryLimit + 1
  start : s.stage = .seq → s.request = some .start → s.seq.avail = .available

/-! ### Source records (R1, R10, R24) -/

/-- What the notes of R1 and the rules R10 and R24 say of one source record and its envelope. -/
structure SourceNotes (h : Nat) (e : Envelope) (c : SourceCtl) : Prop where
  hold : c.hold ≠ 0 → c.state = .aged
  requal : (c.requal ≠ 0 ∨ c.counted = true) → c.state = .lapsed
  requalMax : c.requal ≤ 2
  fresh : c.fresh ≤ e.window
  aged : c.state = .aged → c.fresh = 0
  holdMax : c.hold ≤ h
  declared : c.state = .undeclared ↔ e = .reset

/-- The four source records. -/
def State.SourcesOk (s : State) : Prop := ∀ r, SourceNotes s.cal.active.holdPeriods (s.env.get r) (s.src.get r)

/-! ### Notices and the claim (R162, R164, R173) -/

/-- The repeat set is contained in the raw set. -/
def Notices.Contained (n : Notices) : Prop := n.rep &&& ~~~n.raw = 0

/-- The notes of R162; a disabled port, and the part in reset, hold the reset values of the sets; the claim's holder is an
enabled port, and in reset the claim is free; and the buffer and the transmit position of each PIU in their ranges (R174). -/
structure State.PortsOk (s : State) : Prop where
  contained : ∀ p, (s.ntc.get p).Contained
  disabled : ∀ p, (s.ports.get p).disabled = true → s.ntc.get p = .reset
  inReset : s.rstN = false → s.ntc = .all .reset ∧ s.cal.claim = none
  holder : ∀ c, s.cal.claim = some c → (s.ports.get c.holder).disabled = false
  buffers : ∀ p, (s.ports.get p).rx.length ≤ 88 ∧ (s.ports.get p).txPos ≤ 88

/-! ### Quantities (R104, R109, R116, R118 to R120) -/

/-- Both ends included. -/
def Between (lo hi x : Int) : Prop := lo ≤ x ∧ x ≤ hi

/-- The computed fields of a record: the ranges of R104, the bounds of R116 and R118, the sum of R120. -/
structure SplitOut.Sound (o : SplitOut) : Prop where
  td : Between (-1000) 1000 o.td
  tmHi : Between 0 1000 o.tmHi
  tmLo : Between (-1000) 0 o.tmLo
  teHi : Between 0 1000 o.teHi
  teLo : Between (-200) 0 o.teLo
  te : Between o.teLo o.teHi o.te
  tm : Between o.tmLo o.tmHi o.tm
  sum : o.td = o.te + o.tm + o.tb + o.tu
  tb : Between (-3000) 0 o.tb
  tu : Between 0 2200 o.tu
  oneSided : o.tb = 0 ∨ o.tu = 0
  pBatt : Between (-3000) 3000 o.pBatt
  motorTerm : Between (-3200) 3000 o.motorTerm
  nSel : Between 0 9000 o.nSel

/-- The computed fields of a record. -/
def SplitRecord.out (r : SplitRecord) : SplitOut :=
  ⟨r.td, r.te, r.tm, r.tb, r.tu, r.tmHi, r.tmLo, r.teHi, r.teLo, r.pBatt, r.motorTerm, r.nSel⟩

/-- The envelope ranges of R24, with 0 for a record that is not declared. -/
structure EnvelopesInRange (e : PerRole Envelope) : Prop where
  vehicle : Between 0 1000 e.vehicle.e0 ∧ Between 0 1000 e.vehicle.e1 ∧ Between 0 500 e.vehicle.e2
  engine : Between 0 1000 e.engine.e0 ∧ Between 0 200 e.engine.e1 ∧ Between 0 200 e.engine.e2
  motor : Between 0 1000 e.motor.e0 ∧ Between 0 1000 e.motor.e1 ∧ Between 0 500 e.motor.e2
  battery : Between 0 3000 e.battery.e0 ∧ Between 0 3000 e.battery.e1 ∧ Between 0 200 e.battery.e2

/-- The ranges that clamping and clipping leave (R4, R5) in values as a record or a snapshot holds them. -/
structure ValuesInRange (v : VehicleValues) (e : EngineValues) (motoring generating : Int) (b : BatteryValues)
    (speed : Option Int) : Prop where
  demand : Between (-1000) 1000 v.demand
  regenCap : Between 0 1000 v.regenCap
  maxTorque : Between 0 1000 e.maxTorque
  drag : Between 0 200 e.drag
  motoring : Between 0 1000 motoring
  generating : Between 0 1000 generating
  pdis : Between 0 3000 b.pdis
  pchg : Between 0 3000 b.pchg
  paux : Between 0 200 b.paux
  engineSpeed : Between 0 9000 e.speed
  motorSpeed : ∀ n, speed = some n → Between 0 9000 n
  soc : Between 0 1000 b.soc

/-- The torques, powers and speeds of the part, the values it holds of its sources and its calibration are in the ranges the spec
gives them. -/
structure State.Bounded (s : State) : Prop where
  cal : s.cal.active.validate = .none
  env : EnvelopesInRange s.env
  envCopy : EnvelopesInRange s.envCopy
  held : ValuesInRange s.heldVals.vehicle s.heldVals.engine s.heldVals.motor.motoring s.heldVals.motor.generating
    s.heldVals.battery (some s.heldVals.motor.speed)
  snap : ValuesInRange s.snap.vehicle s.snap.engine s.snap.motor.motoring s.snap.motor.generating s.snap.battery
    s.snap.motor.speed
  nPulse : Between 0 9000 s.spd.nPulse
  nMotorUsed : Between 0 9000 s.spd.nMotorUsed
  nSel : Between 0 9000 s.spd.nSel
  nEff : Between 200 9000 s.spd.nEff ∧ s.spd.nSel ≤ s.spd.nEff
  record : s.record.out.Sound
  pages : ∀ p, (s.ports.get p).page.out.Sound
  previous : s.split.prevTd = s.record.td ∧ s.split.prevTe = s.record.te ∧ s.split.prevTm = s.record.tm
  handedOver : s.stage = .publish → s.splitOut.Sound

/-- The counters of the part are in the ranges the spec gives them, with the notes on the speed unit: the counts of R37 and R41 and the
candidate samples of R38 and R39, the plausibility runs of R37 with its Note 1, the dwell runs of R51, SEQ's timer, sync run and
cool-off counter of R77, the shortfall run of R102, the commit count of R141, the period timer of R196 and F of R24. -/
structure State.CountersInRange (s : State) : Prop where
  window : ∀ r, (s.env.get r).e3 = 0 ∨ Between 2 50 (s.env.get r).e3
  count : s.spd.count ≤ 255 ∧ s.spd.boundaryCount ≤ 255
  ring : s.spd.ring.length = 8 ∧ ∀ n ∈ s.spd.ring, n ≤ 255
  candidate : s.spd.candidate ≤ 2 ∧ (s.cal.active.rejectorOn = false → s.spd.candidate = 0)
  plausibility : s.spd.disagree ≤ 100 ∧ s.spd.agree ≤ 100
  otherRun : if s.spd.check = .plausible then s.spd.agree = 0 else s.spd.disagree = 0
  dwellRuns : s.modeCtl.startRun ≤ 500 ∧ s.modeCtl.stopRun ≤ 3000
  timer : s.seq.timer + s.seq.spent ≤ 1000
  syncRun : s.seq.syncRun ≤ 50
  coolOff : s.seq.coolOff ≤ 1000
  shortfallRun : s.split.shortfallRun ≤ 1000
  commitCount : s.cal.commitCount ≤ 65535
  tmr : 1 ≤ s.tmr ∧ s.tmr ≤ 80000

/-- A state of a safe run: every invariant holds in it. -/
structure State.Safe (s : State) : Prop where
  paired : s.Paired
  seqNotes : s.SeqNotes
  sources : s.SourcesOk
  ports : s.PortsOk
  bounded : s.Bounded
  counters : s.CountersInRange

end Sys2Proof.Machine
end

