-- ==== Sys2Proof/WellFormed.lean ====
section
/-! DEFINITION. Which commands are well formed. -/

namespace Sys2Proof

/-- A command is well formed when its operands describe one event and no other. Every operand type holds exactly the
values its command admits, but for one: the bits of FRAME_REFUSED that follow the whole bytes are those of a byte that
did not arrive whole, so there are at most seven of them (R177). -/
def Instr.wellFormed : Instr → Bool
  | .frameRefused _ _ extra => decide (extra.length < 8)
  | .rstNAsserted => true
  | .rstNReleased _ _ _ => true
  | .resetPselWaitEnd _ => true
  | .frameBegin _ => true
  | .nop _ _ _ => true
  | .identify _ _ _ => true
  | .vehicleReport _ _ _ => true
  | .engineReport _ _ _ => true
  | .motorReport _ _ _ => true
  | .batteryReport _ _ _ => true
  | .declareVehicle _ _ _ => true
  | .declareEngine _ _ _ => true
  | .declareMotor _ _ _ => true
  | .declareBattery _ _ _ => true
  | .readGrant _ _ _ => true
  | .readSplit _ _ _ => true
  | .readStatus _ _ _ => true
  | .readNotices _ _ _ => true
  | .clearNotices _ _ _ => true
  | .setNoticeEnable _ _ _ => true
  | .claim _ _ _ => true
  | .release _ _ _ => true
  | .loadRow _ _ _ => true
  | .commit _ _ _ => true
  | .readRow _ _ _ => true
  | .periodBoundary _ => true
  | .snapshot => true
  | .freshnessExpiry _ => true
  | .holdExpiry _ => true
  | .requalifyExpiry _ => true
  | .spdSample _ => true
  | .speedUnitStage => true
  | .modeDecision => true
  | .sequencerStage => true
  | .crankTimeout => true
  | .syncTimeout => true
  | .clutchTimeout => true
  | .releaseTimeout => true
  | .offTimeout => true
  | .coolOffEnd => true
  | .splitStage => true
  | .publication => true
  | .epochPulseEnd => true

end Sys2Proof
end

