-- ==== Sys2Proof/Certificates/Slice0/Obligations.lean ====
section
/-! DEFINITION. The statements about the part. Each docstring names the rules it formalises; a clause that rests on a choice of the
model names its log entry. -/

open Sys2Proof Sys2Proof.Machine

/-! ### Steps, clock and reset -/

/-- A step runs the command at the front of the queue, on the state with the queue's rest. -/
def Obligations.StepRunsFrontCommand : Prop :=
  ∀ (c : Instr) (rest : List Instr) (s : State), s.pending = c :: rest → step s = exec c { s with pending := rest }

/-- Every command answers a next state, because no rule stops the part (the model's reading of R176, R179, R189 and R192, log 20), and
leaves the queue of waiting commands, which is the model's own (log 21), as it was. What each command does, the other statements say. -/
def Obligations.EveryCommandCompletesAndKeepsTheQueue : Prop :=
  ∀ (c : Instr) (s : State), ∃ t, exec c s = .next t ∧ t.pending = s.pending

/-- On an empty queue and between two operations a step is one REFCLK cycle (the model's choice, log 2). With EPOCH high its pulse timer
counts down, and when it runs out the pulse ends as by EPOCH_PULSE_END (R131). Then the sample divider and the period timer count
down; a divider that runs out takes a sample of the SPD pin, a timer that runs out is a period boundary (R196), and where both run
out, as at every boundary of a run from reset, the sample comes first. With RST_N low nothing happens (R192). -/
def Obligations.IdleStepIsOneClockCycle : Prop :=
  ∀ s : State, s.pending = [] → s.stage = .idle →
    (s.rstN = false → step s = .next s)
    ∧ (s.rstN = true → ∃ p,
      (s.epochPin = false → p = s)
      ∧ (s.epochPin = true → 1 < s.epochTimer → p = { s with epochTimer := s.epochTimer - 1 })
      ∧ (s.epochPin = true → s.epochTimer ≤ 1 → exec .epochPulseEnd s = .next p ∧ p.epochPin = false)
      ∧ (1 < s.sampleDiv → 1 < s.tmr → step s = .next { p with sampleDiv := s.sampleDiv - 1, tmr := s.tmr - 1 })
      ∧ (s.sampleDiv ≤ 1 → 1 < s.tmr →
          ∃ t, exec (.spdSample s.spdPin) p = .next t ∧ step s = .next { t with tmr := s.tmr - 1 })
      ∧ (1 < s.sampleDiv → s.tmr ≤ 1 →
          step s = exec (.periodBoundary s.spdPin) { p with sampleDiv := s.sampleDiv - 1 })
      ∧ (s.sampleDiv ≤ 1 → s.tmr ≤ 1 →
          ∃ t, exec (.spdSample s.spdPin) p = .next t ∧ step s = exec (.periodBoundary s.spdPin) t))

/-- On an empty queue the period timer counts down one REFCLK cycle a step, and the boundary falls in the step in which it runs out: the
timer stands at 80 000 again and an operation has begun (R196). Six steps after a boundary the operation begun there has published
its one record, the epoch one more and EPOCH high (R99, R129 to R131). EPOCH stays high for as many cycles as its pulse timer holds,
160 from a publication on, and is then low (R131). The clock, with one stage in a cycle and 160 cycles to a pulse, is the model's
(log 2). -/
def Obligations.ClockRunsAnOperationEachPeriod : Prop :=
  (∀ (n : Nat) (s : State), s.pending = [] → s.rstN = true → s.stage = .idle → s.tmr = n + 1 →
    (∀ m, m ≤ n → ∃ u, Steps m s u ∧ u.tmr = n + 1 - m ∧ u.stage = .idle ∧ u.record = s.record)
    ∧ ∃ t, Steps (n + 1) s t ∧ t.tmr = 80000 ∧ t.stage = .src ∧ t.record = s.record)
  ∧ (∀ s : State, s.pending = [] → s.rstN = true → s.stage = .src → 6 < s.tmr →
    ∃ t, Steps 6 s t ∧ t.stage = .idle ∧ t.record.epoch = s.record.epoch + 1 ∧ t.epochPin = true ∧ t.epochTimer = 160
      ∧ t.pending = [])
  ∧ ∀ (n : Nat) (s : State), s.pending = [] → s.rstN = true → s.stage = .idle → s.epochPin = true → s.epochTimer = n + 1 →
    n + 1 < s.tmr →
    (∀ m, m ≤ n → ∃ u, Steps m s u ∧ u.epochPin = true)
    ∧ ∃ t, Steps (n + 1) s t ∧ t.epochPin = false ∧ t.epochTimer = 0 ∧ t.record = s.record

/-- RST_N low returns every block to its reset values, ends the operation, the frames and the EPOCH pulse, releases every ATTN_N line
and leaves MISO undriven (R192, R101); and a release with the straps in port order, SPD low and PSEL high makes of that state
`State.reset`, whatever the part held before. The reset state's own strap, SPD and PSEL levels are the model's choice (log 1), and so
are, while RST_N is low, the role and the disabled flag that each port keeps and the filtered level, the SPD level last seen (log 16). -/
def Obligations.ResetReturnsEveryBlock : Prop :=
  ∀ s : State,
    (∃ t, exec .rstNAsserted s = .next t ∧ t.rstN = false ∧ t.epochPin = false ∧ t.stage = .idle
      ∧ (∀ p, t.attn p = false ∧ t.miso p = none) ∧ t.src = .all .reset ∧ t.heldVals = .reset ∧ t.snap = .reset
      ∧ t.env = .all .reset ∧ t.envCopy = .all .reset ∧ t.spd = .reset s.spdPin ∧ t.modeCtl = .reset ∧ t.seq = .reset
      ∧ t.split = .reset ∧ t.record = .reset ∧ t.cal = .reset ∧ t.ntc = .all .reset ∧ t.tmr = 80000
      ∧ ∀ p, t.ports.get p = Port.reset (s.ports.get p).role (s.ports.get p).disabled false)
    ∧ Runs [.rstNAsserted, .rstNReleased ⟨⟨false, false⟩, ⟨false, true⟩, ⟨true, false⟩, ⟨true, true⟩⟩ false (.all false)] s
        { State.reset with pending := s.pending }

/-- While RST_N is low, no command but those of RST_N itself changes anything (R192; log 6). -/
def Obligations.NothingRunsInReset : Prop :=
  ∀ (c : Instr) (s : State), s.rstN = false → s.epochPin = false → s.epochTimer = 0 → c ≠ .rstNAsserted →
    (∀ straps spd low, c ≠ .rstNReleased straps spd low) → exec c s = .next s

/-- The release of RST_N: each port takes its role from its straps, ROLEn_1 as bit 1 and ROLEn_0 as bit 0; a port whose role a
lower-numbered port holds is disabled; a port whose PSEL is low waits; the filtered level is the SPD pin's; the timer starts at
80 000; nothing else changes (R193, R194, R196, R197). With RST_N already high the command changes nothing (log 15). -/
def Obligations.ReleaseTakesTheStraps : Prop :=
  ∀ (straps : PerPort StrapPins) (spd : Bool) (low : PerPort Bool) (s : State),
    (s.rstN = true → exec (.rstNReleased straps spd low) s = .next s)
    ∧ (s.rstN = false → ∃ t, exec (.rstNReleased straps spd low) s = .next t
      ∧ (∀ p, (t.ports.get p).role.code = 2 * bitNat (straps.get p).hi + bitNat (straps.get p).lo)
      ∧ (∀ p, (t.ports.get p).disabled = true
          ↔ ∃ q, portNumber q < portNumber p ∧ (t.ports.get q).role = (t.ports.get p).role)
      ∧ (∀ p, t.ports.get p = { s.ports.get p with role := (t.ports.get p).role, disabled := (t.ports.get p).disabled
                                                   pselWait := low.get p })
      ∧ t = { s with rstN := true, spdPin := spd, tmr := 80000, sampleDiv := 125, spd := { s.spd with filtered := spd }
                     ports := t.ports })

/-! ### Frames -/

/-- On a port whose PSEL was low at the release, a falling PSEL begins no frame, and whatever the rise would complete, it only ends
the wait: no answer, no notice (R197; log 5). On any other port the command RESET_PSEL_WAIT_END changes nothing (log 15). -/
def Obligations.WaitingPortIgnoresFrames : Prop :=
  ∀ (p : PortId) (s : State), s.rstN = true →
    ((s.ports.get p).pselWait = true →
      exec (.frameBegin p) s = .next s
      ∧ exec (.resetPselWaitEnd p) s = .next { s with ports := s.ports.set p { s.ports.get p with pselWait := false } }
      ∧ ∀ c, port c = some p → c ≠ .frameBegin p → exec c s = exec (.resetPselWaitEnd p) s)
    ∧ ((s.ports.get p).pselWait = false → exec (.resetPselWaitEnd p) s = .next s)

/-- A falling PSEL empties the receive buffer, sets the transmit position to 0 and drives the first bit of the held response, the
most significant bit of its result code, onto MISO; nothing else changes (R175). A frame that completes has shifted out, one bit for
each of its clocks, the eleven bytes of the response held before it, most significant bit first: the result's code, the tag, W0 to W3
each with its most significant byte first, and the CRC-8 of these ten bytes, whose register starts at all ones, takes each bit with
the generator x⁸ + x⁴ + x³ + x² + 1 and is inverted at the end; after the 88th bit it has shifted out 0s (R175, R178, R186, R187).
The codes are those of R189. That the bits go out at the completion is the model's choice (log 4). -/
def Obligations.FrameBeginStartsTheHeldResponse : Prop :=
  (∀ (p : PortId) (s : State), s.Live p →
    ∃ t, exec (.frameBegin p) s = .next t ∧ t = { s with ports := t.ports }
      ∧ t.ports.get p = { s.ports.get p with inFrame := true, rx := [], rxCount := 0, txPos := 0 }
      ∧ (∀ q, q ≠ p → t.ports.get q = s.ports.get q)
      ∧ t.miso p = some ((s.ports.get p).held.result.code.getLsbD 7))
  ∧ (∀ (c : Instr) (p : PortId) (s t : State), port c = some p → c ≠ .frameBegin p → c ≠ .resetPselWaitEnd p → s.Live p →
    exec c s = .next t →
    let r := (s.ports.get p).held
    let hi (w : Word) : Byte := BitVec.ofNat 8 (w.toNat / 256)
    let lo (w : Word) : Byte := BitVec.ofNat 8 w.toNat
    let body : List Byte := [r.result.code, r.tag, hi r.words.w0, lo r.words.w0, hi r.words.w1, lo r.words.w1, hi r.words.w2,
      lo r.words.w2, hi r.words.w3, lo r.words.w3]
    let bit (bytes : List Byte) (i : Nat) : Bool := (bytes.getD (i / 8) 0).getLsbD (7 - i % 8)
    let crc : Byte := ~~~ ((List.range 80).foldl
      (fun (x : Byte) i => if x.getLsbD 7 = bit body i then x <<< 1 else (x <<< 1) ^^^ 0x1D) 0xFF)
    (t.ports.get p).sent = (List.range (t.ports.get p).rxCount).map (bit (body ++ [crc])))
  ∧ ∀ e ∈ ([(.ok, 0x00), (.okClamped, 0x01), (.accepted, 0x02), (.none, 0x80), (.crcError, 0x81), (.lengthError, 0x82),
      (.unknownKind, 0x83), (.roleMismatch, 0x84), (.wrongMode, 0x85), (.undeclared, 0x86), (.badArgument, 0x87), (.held, 0x88),
      (.notHolder, 0x89), (.noClaim, 0x8A), (.busy, 0x8B), (.portDisabled, 0x8C)] : List (ResultCode × Byte)), e.1.code = e.2

/-- What a completed frame meets that passes no further than checks 1 to 4 of R176: PORT_DISABLED on a disabled port; LENGTH_ERROR
where it did not carry eleven whole bytes; CRC_ERROR where byte 10 is not the CRC-8 of bytes 0 to 9; UNKNOWN_KIND where byte 0 is no
kind's code. The tag is byte 1 where it arrived whole, else 0; the words are 0; length and CRC errors raise FRAME_ERROR on this port
alone; nothing else changes (R176, R177, R178, R179, R182). What the buffer and the count keep of an overlong frame is the model's
choice (log 26). -/
def Obligations.RefusedFrameIsAnswered : Prop :=
  ∀ (p : PortId) (bytes : List Byte) (extra : List Bool) (s : State), s.Live p →
    Instr.wellFormed (.frameRefused p bytes extra) = true →
    ∃ t, exec (.frameRefused p bytes extra) s = .next t
      ∧ let refused (result : ResultCode) (notices : List NoticeKind) : Prop :=
          FrameDone p (refusedBits bytes extra) ⟨result, bytes.getD 1 0, zeroWords⟩ (s.ports.get p).page s t
            ∧ RaisedOn p notices s t ∧ t = { s with ports := t.ports, ntc := t.ntc }
        ((s.ports.get p).disabled = true → refused .portDisabled [])
        ∧ (s.Enabled p → (bytes.length ≠ 11 ∨ extra ≠ []) → refused .lengthError [.frameError])
        ∧ (s.Enabled p → extra = [] → ∀ body last, bytes = body ++ [last] → body.length = 10 → last ≠ crc8 body →
            refused .crcError [.frameError])
        ∧ (s.Enabled p → extra = [] → ∀ body, bytes = body ++ [crc8 body] → body.length = 10 →
            (∀ k : FrameKind, body.getD 0 0 ≠ k.code) → refused .unknownKind [])

/-- The eleven bytes of a request frame, with the CRC-8 over the ten before it, are read back as that kind, tag and words, and the
completion of exactly those bytes does what the request command does (R176, R178, R187, R188; log 12). -/
def Obligations.RequestBytesAreTheirRequest : Prop :=
  ∀ (k : FrameKind) (tag : Byte) (w : Words),
    checkFrame (requestBits k tag w) = .good k tag w
    ∧ ∀ (p : PortId) (s : State), exec (.frameRefused p (frameBytes k.code tag w) []) s = exec (k.command p tag w) s

/-- A disabled port answers every request PORT_DISABLED with the frame's tag and words 0 and changes nothing else (R182). An enabled
port answers a report or DECLARE kind of another role ROLE_MISMATCH, which is raised on that port alone, and changes nothing else
(R179); the kinds so bound are one report and one DECLARE for each role. -/
def Obligations.AdmissionByPortAndRole : Prop :=
  (∀ k r, boundRole k = some r ↔ k = reportKind r ∨ k = declareKind r)
  ∧ ∀ (k : FrameKind) (p : PortId) (tag : Byte) (w : Words) (s : State), s.Live p →
    ((s.ports.get p).disabled = true →
      ∃ t, exec (k.command p tag w) s = .next t ∧ Answered k p tag w .portDisabled zeroWords s t ∧ t = { s with ports := t.ports })
    ∧ (s.Enabled p → ∀ r, boundRole k = some r → (s.ports.get p).role ≠ r →
      ∃ t, exec (k.command p tag w) s = .next t ∧ Answered k p tag w .roleMismatch zeroWords s t
        ∧ RaisedOn p [.roleMismatch] s t ∧ t = { s with ports := t.ports, ntc := t.ntc })

/-- The PIUs work independently: outside RST_N, a port's held response, its page snapshot and all else its PIU holds are changed only
by that port's own frames. So an answer captured is not altered by a publication, a boundary or a notice (R180), pages 1 to 3 belong
to the page 0 read before them (R138), and a frame on one port leaves the other three alone (R185). -/
def Obligations.OnlyItsOwnFramesChangeAPort : Prop :=
  ∀ (c : Instr) (p : PortId) (s t : State), exec c s = .next t → port c ≠ some p → c ≠ .rstNAsserted →
    (∀ straps spd low, c ≠ .rstNReleased straps spd low) → t.ports.get p = s.ports.get p

/-- NOP is answered OK with words 0 and has no other effect. IDENTIFY is answered OK with the part code, the revision, the strap map
(role of port n in bits 4n+1..4n, disabled flag in bit 4n+2, 0 in bit 4n+3) and the capacities, and has no other effect (R183). -/
def Obligations.NopAndIdentify : Prop :=
  ∀ (p : PortId) (tag : Byte) (w : Words) (s : State),
    (s.Admits .nop p → ∃ t, exec (.nop p tag w) s = .next t ∧ Answered .nop p tag w .ok ⟨0, 0, 0, 0⟩ s t
      ∧ t = { s with ports := t.ports })
    ∧ (s.Admits .identify p → ∃ t m, exec (.identify p tag w) s = .next t
      ∧ Answered .identify p tag w .ok ⟨0x3260, 0x0100, m, 0xC61B⟩ s t ∧ t = { s with ports := t.ports }
      ∧ ∀ q, m.toNat / 16 ^ portNumber q % 4 = (s.ports.get q).role.code
          ∧ m.getLsbD (4 * portNumber q + 2) = (s.ports.get q).disabled ∧ m.getLsbD (4 * portNumber q + 3) = false)

/-- READ_STATUS answers OK with the state its selector names, laid out as R191 gives, and BAD_ARGUMENT with words 0 above selector 10;
it changes nothing else (R184, R191, R50, R97, R159, R35). The state is the one at the read, adjustments made by another block before
the owner's stage included (the model's choice, log 25). -/
def Obligations.ReadStatusLayouts : Prop :=
  ∀ (p : PortId) (tag : Byte) (w : Words) (s : State), s.Admits .readStatus p →
    ∃ t result words, exec (.readStatus p tag w) s = .next t ∧ Answered .readStatus p tag w result words s t
      ∧ t = { s with ports := t.ports } ∧ (result = .ok ↔ w.w0.toNat ≤ 10)
      ∧ (10 < w.w0.toNat → result = .badArgument ∧ words = zeroWords)
      ∧ (∀ r : Role, w.w0.toNat = r.code → (s.src.get r).requal ≤ 2 →
          words.w0.toNat % 4 = (s.src.get r).state.code ∧ words.w0.toNat / 4 % 4 = (s.src.get r).requal
            ∧ words.w0.getLsbD 4 = (s.src.get r).clipped ∧ words.w0.getLsbD 5 = (s.src.get r).counted ∧ words.w0.toNat < 64
            ∧ words.w1 = BitVec.ofNat 16 (s.src.get r).fresh ∧ words.w2 = BitVec.ofNat 16 (s.src.get r).hold
            ∧ words.w3 = BitVec.ofInt 16 (s.env.get r).e3)
      ∧ (w.w0.toNat = 4 → s.seq.attempts ≤ 255 →
          words.w0.toNat = s.seq.state.code ∧ words.w1.toNat = s.seq.avail.code
            ∧ words.w2.toNat / 256 = s.seq.attempts ∧ words.w2.toNat % 256 = s.seq.lastReason.code
            ∧ words.w3 = BitVec.ofNat 16
                (if s.seq.state ∈ [.crankWait, .speedSync, .clutchWait, .clutchRelease, .offWait] then s.seq.timer
                 else if s.seq.avail = .cooling then s.seq.coolOff else 0))
      ∧ (w.w0.toNat = 5 →
          words.w0 = BitVec.ofInt 16 s.spd.nPulse ∧ words.w1 = BitVec.ofInt 16 s.spd.nMotorUsed
            ∧ words.w2.getLsbD 0 = decide (s.spd.check = .implausible) ∧ words.w2.getLsbD 1 = s.spd.absent ∧ words.w2.toNat < 4
            ∧ words.w3 = BitVec.ofNat 16 (if s.spd.check = .plausible then s.spd.disagree else s.spd.agree))
      ∧ (w.w0.toNat = 6 → CalStatus s words)
      ∧ ∀ r : Role, w.w0.toNat = 7 + r.code →
          words = ⟨BitVec.ofInt 16 (s.env.get r).e0, BitVec.ofInt 16 (s.env.get r).e1, BitVec.ofInt 16 (s.env.get r).e2,
            BitVec.ofInt 16 (s.env.get r).e3⟩

/-! ### Sources -/

/-- A report to an UNDECLARED source is refused UNDECLARED with words 0; the record is left as it stood and no notice is raised. In any
other state a report is accepted, OK or OK_CLAMPED, in any mode and whatever values it carries (R3). -/
def Obligations.ReportIsRefusedOnlyWhenUndeclared : Prop :=
  ∀ (r : Role) (p : PortId) (tag : Byte) (w : Words) (s : State), s.Admits (reportKind r) p →
    ∃ t, exec ((reportKind r).command p tag w) s = .next t
      ∧ ((s.src.get r).state = .undeclared →
          Answered (reportKind r) p tag w .undeclared zeroWords s t ∧ t = { s with ports := t.ports })
      ∧ ((s.src.get r).state ≠ .undeclared →
          (t.ports.get p).held.result = .ok ∨ (t.ports.get p).held.result = .okClamped)

/-- An accepted report reloads its source's freshness counter to F of the live envelope, and its clipped flag tells OK_CLAMPED from OK.
FRESH stays FRESH; AGED becomes FRESH with hold counter 0; the first report of a period counts in LAPSED, and the third counted one
makes the source FRESH; only the two changes of state raise SOURCE_CHANGED. The other sources and every other block are unchanged
(R6 to R10, R23). A report that arrives between the boundary and SRC's stage finds its source's boundary update made:
`s.finishSource r` in place of `s` (R15; log 9). -/
def Obligations.AcceptedReportUpdatesItsRecord : Prop :=
  ∀ (r : Role) (p : PortId) (tag : Byte) (w : Words) (s : State), s.Admits (reportKind r) p →
    (s.src.get r).state ≠ .undeclared →
    ∃ t, exec ((reportKind r).command p tag w) s = .next t
      ∧ let u := s.finishSource r
        let c := u.src.get r
        let d := { c with fresh := (s.env.get r).window, clipped := (t.src.get r).clipped }
        t = { u with ports := t.ports, ntc := t.ntc, heldVals := t.heldVals, src := u.src.set r (t.src.get r) }
          ∧ (t.ports.get p).held.result = (if (t.src.get r).clipped then .okClamped else .ok)
          ∧ (c.state = .fresh → t.src.get r = d ∧ Raised [] u t)
          ∧ (c.state = .aged → t.src.get r = { d with state := .fresh, hold := 0 } ∧ Raised [.sourceChanged] u t)
          ∧ (c.state = .lapsed → c.counted = true → t.src.get r = d ∧ Raised [] u t)
          ∧ (c.state = .lapsed → c.counted = false → c.requal < 2 →
              t.src.get r = { d with requal := c.requal + 1, counted := true } ∧ Raised [] u t)
          ∧ (c.state = .lapsed → c.counted = false → 2 ≤ c.requal →
              t.src.get r = { d with state := .fresh, requal := 0, counted := false } ∧ Raised [.sourceChanged] u t)

/-- Accepted reports (R4, R5, R6). VEHICLE: drive-enabled and zone are bits 0 and 1 of W0; the demand, read as two's complement, is
clamped to −1000..1000 and clipped to −E1..E0; the regen cap is clamped to 0..1000. ENGINE: engine state in bits 1..0 of W0, clutch
state in bits 3..2 with code 3 read as SLIPPING and counted as clamped, warm-up, force and ready in bits 4, 5 and 6; max torque and
drag clamped to 0..1000 and clipped to 0..E0 and 0..E1; the speed clamped to 0..9000. The answer echoes the stored values, unassigned
bits as 0, and is OK exactly when no field was changed. -/
def Obligations.VehicleAndEngineReportsStoreTheirFields : Prop :=
  (∀ (p : PortId) (tag : Byte) (w : Words) (s : State), s.Admits .vehicleReport p → s.src.vehicle.state ≠ .undeclared →
    EnvelopesInRange s.env →
    ∃ t, exec (.vehicleReport p tag w) s = .next t
      ∧ let demand := max (-s.env.vehicle.e1) (min s.env.vehicle.e0 (max (-1000) (min 1000 w.w1.toInt)))
        let cap := max 0 (min 1000 w.w2.toInt)
        t.heldVals = { s.heldVals with vehicle := ⟨w.w0.getLsbD 0, w.w0.getLsbD 1, demand, cap⟩ }
          ∧ Answered .vehicleReport p tag w (if demand = w.w1.toInt ∧ cap = w.w2.toInt then .ok else .okClamped)
              ⟨w.w0 &&& 3, BitVec.ofInt 16 demand, BitVec.ofInt 16 cap, 0⟩ s t)
  ∧ ∀ (p : PortId) (tag : Byte) (w : Words) (s : State), s.Admits .engineReport p → s.src.engine.state ≠ .undeclared →
    EnvelopesInRange s.env →
    ∃ t, exec (.engineReport p tag w) s = .next t
      ∧ let torque := max 0 (min s.env.engine.e0 (max 0 (min 1000 w.w1.toInt)))
        let drag := max 0 (min s.env.engine.e1 (max 0 (min 1000 w.w2.toInt)))
        let speed := max 0 (min 9000 w.w3.toInt)
        let v := t.heldVals.engine
        t.heldVals = { s.heldVals with engine := v }
          ∧ v.state.code = w.w0.toNat % 4
          ∧ v.clutch.code = (if w.w0.toNat / 4 % 4 = 3 then 1 else w.w0.toNat / 4 % 4)
          ∧ v.warm = w.w0.getLsbD 4 ∧ v.force = w.w0.getLsbD 5 ∧ v.ready = w.w0.getLsbD 6
          ∧ v.maxTorque = torque ∧ v.drag = drag ∧ v.speed = speed
          ∧ Answered .engineReport p tag w
              (if w.w0.toNat / 4 % 4 ≠ 3 ∧ torque = w.w1.toInt ∧ drag = w.w2.toInt ∧ speed = w.w3.toInt then .ok else .okClamped)
              ⟨if w.w0.toNat / 4 % 4 = 3 then w.w0 &&& 0x77 else w.w0 &&& 0x7F, BitVec.ofInt 16 torque, BitVec.ofInt 16 drag,
                BitVec.ofInt 16 speed⟩ s t

/-- Accepted reports (R4, R5, R6). MOTOR: derating is bit 0 of W0; the motoring and generating limits are clamped to 0..1000 and clipped
to 0..E0 and 0..E1; the speed is clamped to 0..9000. BATTERY: the SoC in W0 is clamped to 0..1000; Pdis and Pchg are clamped to
0..3000 and clipped to 0..E0 and 0..E1; Paux is clamped to 0..200 and clipped to 0..E2. The answer echoes the stored values and is OK
exactly when no field was changed. -/
def Obligations.MotorAndBatteryReportsStoreTheirFields : Prop :=
  (∀ (p : PortId) (tag : Byte) (w : Words) (s : State), s.Admits .motorReport p → s.src.motor.state ≠ .undeclared →
    EnvelopesInRange s.env →
    ∃ t, exec (.motorReport p tag w) s = .next t
      ∧ let motoring := max 0 (min s.env.motor.e0 (max 0 (min 1000 w.w1.toInt)))
        let generating := max 0 (min s.env.motor.e1 (max 0 (min 1000 w.w2.toInt)))
        let speed := max 0 (min 9000 w.w3.toInt)
        t.heldVals = { s.heldVals with motor := ⟨w.w0.getLsbD 0, motoring, generating, speed⟩ }
          ∧ Answered .motorReport p tag w
              (if motoring = w.w1.toInt ∧ generating = w.w2.toInt ∧ speed = w.w3.toInt then .ok else .okClamped)
              ⟨w.w0 &&& 1, BitVec.ofInt 16 motoring, BitVec.ofInt 16 generating, BitVec.ofInt 16 speed⟩ s t)
  ∧ ∀ (p : PortId) (tag : Byte) (w : Words) (s : State), s.Admits .batteryReport p → s.src.battery.state ≠ .undeclared →
    EnvelopesInRange s.env →
    ∃ t, exec (.batteryReport p tag w) s = .next t
      ∧ let soc := max 0 (min 1000 w.w0.toInt)
        let pdis := max 0 (min s.env.battery.e0 (max 0 (min 3000 w.w1.toInt)))
        let pchg := max 0 (min s.env.battery.e1 (max 0 (min 3000 w.w2.toInt)))
        let paux := max 0 (min s.env.battery.e2 (max 0 (min 200 w.w3.toInt)))
        t.heldVals = { s.heldVals with battery := ⟨soc, pdis, pchg, paux⟩ }
          ∧ Answered .batteryReport p tag w
              (if soc = w.w0.toInt ∧ pdis = w.w1.toInt ∧ pchg = w.w2.toInt ∧ paux = w.w3.toInt then .ok else .okClamped)
              ⟨BitVec.ofInt 16 soc, BitVec.ofInt 16 pdis, BitVec.ofInt 16 pchg, BitVec.ofInt 16 paux⟩ s t

/-- While an operation is in flight, no command of a port changes a value that the operation takes: whatever arrives after the
boundary, at whichever stage, the rest of the operation publishes the same record and leaves the speed unit, MODE, SEQ, SPLIT, the
snapshot, the period copy and the active set the same (R15, R17, R25, R33, R100). -/
def Obligations.RequestInFlightLeavesTheRecord : Prop :=
  ∀ (c : Instr) (s t u v : State), fromPort c → s.stage ≠ .idle → exec c s = .next t → Runs laterStages s u →
    Runs laterStages t v →
    v.record = u.record ∧ v.spd = u.spd ∧ v.modeCtl = u.modeCtl ∧ v.seq = u.seq ∧ v.split = u.split ∧ v.splitOut = u.splitOut
      ∧ v.snap = u.snap ∧ v.envCopy = u.envCopy ∧ v.cal.active = u.cal.active

/-- What a boundary makes of a source record that is still to be brought up to date: FRESH counts down and ages at 0 with the hold
counter at H; AGED counts down and lapses at 0; LAPSED counts down, loses its requalify count when the counter is brought to 0, and
opens the period; UNDECLARED is left (R11 to R14). SNAPSHOT does so to every source not yet up to date, leaves the others, hands
the operation to stage 3, and the period copy takes the live envelopes (R17, R25). It raises SOURCE_CHANGED once for each source
whose state it changes, in role order, and for no other (R23). A lapse of the source of the claim holder's role frees the claim and
raises CLAIM_LOST, and discards a pending commit with reason CLAIM_LOST and CAL_REJECTED; otherwise the claim is kept (R157). -/
def Obligations.SnapshotUpdatesTheSources : Prop :=
  ∀ s : State, s.rstN = true → s.stage = .src →
    ∃ t, exec .snapshot s = .next t ∧ t.stage = .spd
      ∧ t = { s with src := t.src, snap := t.snap, snapDone := t.snapDone, envCopy := t.envCopy, cal := t.cal, ntc := t.ntc
                     stage := .spd }
      ∧ (∀ r, t.snapDone.get r = true
        ∧ (s.snapDone.get r = true → t.src.get r = s.src.get r ∧ t.envCopy.get r = s.envCopy.get r)
        ∧ (s.snapDone.get r = false → t.envCopy.get r = s.env.get r
          ∧ let c := s.src.get r
            (c.state = .undeclared → t.src.get r = c)
            ∧ (c.state = .fresh → 1 < c.fresh → t.src.get r = { c with fresh := c.fresh - 1 })
            ∧ (c.state = .fresh → c.fresh ≤ 1 →
                t.src.get r = { c with state := .aged, fresh := 0, hold := s.cal.active.holdPeriods })
            ∧ (c.state = .aged → 1 < c.hold → t.src.get r = { c with hold := c.hold - 1 })
            ∧ (c.state = .aged → c.hold ≤ 1 →
                t.src.get r = { c with state := .lapsed, hold := 0, requal := 0, counted := false })
            ∧ (c.state = .lapsed → c.fresh = 1 → t.src.get r = { c with fresh := 0, requal := 0, counted := false })
            ∧ (c.state = .lapsed → c.fresh ≠ 1 → t.src.get r = { c with fresh := c.fresh - 1, counted := false })))
      ∧ let lapsed (r : Role) : Prop := (s.src.get r).state = .aged ∧ (t.src.get r).state = .lapsed
        let lost (r : Role) : List NoticeKind := match s.cal.claim with
          | some m => if (s.src.get r).state = .aged ∧ (t.src.get r).state = .lapsed ∧ (s.ports.get m.holder).role = r then
              (if m.pending then [.calRejected, .claimLost] else [.claimLost]) else []
          | none => []
        (s.cal.claim = none → t.cal = s.cal)
        ∧ (∀ m, s.cal.claim = some m →
          (¬ lapsed (s.ports.get m.holder).role → t.cal = s.cal)
          ∧ (lapsed (s.ports.get m.holder).role →
              t.cal = { s.cal with claim := none, lastRejection := if m.pending then .claimLost else s.cal.lastRejection }))
        ∧ Raised (([.vehicle, .engine, .motor, .battery] : List Role).flatMap (fun r =>
            (if (t.src.get r).state ≠ (s.src.get r).state then [.sourceChanged] else []) ++ lost r)) s t

/-- The snapshot of a boundary at which every source is still to be brought up to date: each source's new state, UNDECLARED shown as
LAPSED; the held values of a FRESH or AGED source; for a LAPSED one the substitutes: the vehicle's demand is the Td of the record
before moved toward 0 by the declared decay ramp, the engine reads FAULT and OPEN, the motor speed is absent, the battery keeps its
SoC (R17 to R22, R25). -/
def Obligations.SnapshotHoldsValuesOrSubstitutes : Prop :=
  ∀ s : State, s.rstN = true → s.stage = .src → s.snapDone = .all false → 0 ≤ s.env.vehicle.e2 →
    ∃ t, exec .snapshot s = .next t
      ∧ (∀ r, t.snap.state.get r = if (t.src.get r).state = .undeclared then .lapsed else (t.src.get r).state)
      ∧ t.snap.vehicle =
          (if t.snap.state.vehicle = .lapsed then
            ⟨false, false, if 0 ≤ s.record.td then s.record.td - min s.record.td s.env.vehicle.e2
                           else s.record.td + min (-s.record.td) s.env.vehicle.e2, 0⟩
          else s.heldVals.vehicle)
      ∧ t.snap.engine =
          (if t.snap.state.engine = .lapsed then ⟨.fault, .opened, false, false, false, 0, 0, 0⟩ else s.heldVals.engine)
      ∧ t.snap.motor =
          (if t.snap.state.motor = .lapsed then ⟨false, 0, 0, none⟩
          else ⟨s.heldVals.motor.derating, s.heldVals.motor.motoring, s.heldVals.motor.generating, some s.heldVals.motor.speed⟩)
      ∧ t.snap.battery =
          (if t.snap.state.battery = .lapsed then ⟨s.heldVals.battery.soc, 0, 0, 0⟩ else s.heldVals.battery)

/-- The three expiries. FRESHNESS_EXPIRY makes a FRESH source whose counter runs out AGED; HOLD_EXPIRY makes an AGED source whose hold
runs out LAPSED; each raises SOURCE_CHANGED. REQUALIFY_EXPIRY sets the requalify count of a LAPSED source whose counter runs out back
to 0 and raises nothing. A lapse takes the claim from a holder of that role, discards its staging set and a pending commit, and raises
CLAIM_LOST, and CAL_REJECTED with reason CLAIM_LOST for the commit; any other claim is kept (R11, R12, R13, R23, R157). Where its
condition does not hold, or the source's part of SRC's stage is not due, an expiry changes nothing; and the
SNAPSHOT that follows any of them leaves exactly the state that it leaves without it (log 7). -/
def Obligations.ExpiriesActWhenDue : Prop :=
  (∀ (r : Role) (s : State), (s.rstN = false ∨ s.stage ≠ .src ∨ s.snapDone.get r = true) →
    exec (.freshnessExpiry r) s = .next s ∧ exec (.holdExpiry r) s = .next s ∧ exec (.requalifyExpiry r) s = .next s)
  ∧ (∀ (r : Role) (s : State), s.rstN = true → s.stage = .src → s.snapDone.get r = false →
    let c := s.src.get r
    let only (t : State) (d : SourceCtl) : Prop :=
      t = { s with src := s.src.set r d, snap := t.snap, snapDone := s.snapDone.set r true
                   envCopy := s.envCopy.set r (s.env.get r), cal := t.cal, ntc := t.ntc }
    (c.state = .fresh → c.fresh ≤ 1 →
      ∃ t, exec (.freshnessExpiry r) s = .next t ∧ t.cal = s.cal ∧ Raised [.sourceChanged] s t
        ∧ only t { c with state := .aged, fresh := 0, hold := s.cal.active.holdPeriods })
    ∧ (c.state = .lapsed → c.fresh = 1 →
      ∃ t, exec (.requalifyExpiry r) s = .next t ∧ t.cal = s.cal ∧ Raised [] s t
        ∧ only t { c with fresh := 0, requal := 0, counted := false })
    ∧ (c.state = .aged → c.hold ≤ 1 →
      ∃ t, exec (.holdExpiry r) s = .next t ∧ only t { c with state := .lapsed, hold := 0, requal := 0, counted := false }
        ∧ ((∀ m, s.cal.claim = some m → (s.ports.get m.holder).role ≠ r) → t.cal = s.cal ∧ Raised [.sourceChanged] s t)
        ∧ ∀ m, s.cal.claim = some m → (s.ports.get m.holder).role = r →
            t.cal = { s.cal with claim := none, lastRejection := if m.pending then .claimLost else s.cal.lastRejection }
            ∧ Raised ([.sourceChanged] ++ (if m.pending then [.calRejected] else []) ++ [.claimLost]) s t)
    ∧ ((c.state ≠ .fresh ∨ 1 < c.fresh) → exec (.freshnessExpiry r) s = .next s)
    ∧ ((c.state ≠ .aged ∨ 1 < c.hold) → exec (.holdExpiry r) s = .next s)
    ∧ ((c.state ≠ .lapsed ∨ c.fresh ≠ 1) → exec (.requalifyExpiry r) s = .next s))
  ∧ ∀ (c : Instr) (r : Role) (s t : State), (c = .freshnessExpiry r ∨ c = .holdExpiry r ∨ c = .requalifyExpiry r) →
    exec c s = .next t → exec .snapshot t = exec .snapshot s

/-! ### Envelopes -/

/-- A DECLARE while the published mode is INIT or PARKED: the four words, read as two's complement and clamped to the ranges of R24,
become the envelope, echoed with OK exactly when none was changed; the role's held values are re-clipped; the freshness counter is
lowered to the new F; the clipped flag is set if the re-clip changed a value; UNDECLARED becomes LAPSED; ENVELOPE_CHANGED and nothing
else is raised; nothing else changes (R24, R26 to R32). A DECLARE between the boundary and SRC's stage finds its source's boundary
update made: `s.finishSource r` in place of `s` (R33; log 9). -/
def Obligations.DeclareTakenInInitOrParked : Prop :=
  ∀ (r : Role) (p : PortId) (tag : Byte) (w : Words) (s : State), s.Admits (declareKind r) p →
    (s.record.mode = .init ∨ s.record.mode = .parked) →
    ∃ t e, exec ((declareKind r).command p tag w) s = .next t
      ∧ e = (match r with
        | .vehicle => ⟨max 0 (min 1000 w.w0.toInt), max 0 (min 1000 w.w1.toInt), max 1 (min 500 w.w2.toInt),
            max 2 (min 50 w.w3.toInt)⟩
        | .engine => ⟨max 0 (min 1000 w.w0.toInt), max 0 (min 200 w.w1.toInt), max 1 (min 200 w.w2.toInt),
            max 2 (min 50 w.w3.toInt)⟩
        | .motor => ⟨max 0 (min 1000 w.w0.toInt), max 0 (min 1000 w.w1.toInt), max 1 (min 500 w.w2.toInt),
            max 2 (min 50 w.w3.toInt)⟩
        | .battery => ⟨max 0 (min 3000 w.w0.toInt), max 0 (min 3000 w.w1.toInt), max 0 (min 200 w.w2.toInt),
            max 2 (min 50 w.w3.toInt)⟩)
      ∧ (if e = ⟨w.w0.toInt, w.w1.toInt, w.w2.toInt, w.w3.toInt⟩ then
          Answered (declareKind r) p tag w .ok w s t
        else Answered (declareKind r) p tag w .okClamped
          ⟨BitVec.ofInt 16 e.e0, BitVec.ofInt 16 e.e1, BitVec.ofInt 16 e.e2, BitVec.ofInt 16 e.e3⟩ s t)
      ∧ let u := s.finishSource r
        let c := u.src.get r
        let h := u.heldVals
        let d := { c with fresh := min c.fresh e.e3.toNat, clipped := c.clipped || decide (t.heldVals ≠ h) }
        t = { u with ports := t.ports, ntc := t.ntc, env := u.env.set r e, heldVals := t.heldVals
                     src := u.src.set r (if c.state = .undeclared then
                       { d with state := .lapsed, fresh := 0, hold := 0, requal := 0, counted := false } else d) }
          ∧ Raised [.envelopeChanged] u t
          ∧ t.heldVals = (match r with
            | .vehicle => { h with vehicle := { h.vehicle with demand := max (-e.e1) (min e.e0 h.vehicle.demand) } }
            | .engine => { h with engine := { h.engine with maxTorque := max 0 (min e.e0 h.engine.maxTorque)
                                                            drag := max 0 (min e.e1 h.engine.drag) } }
            | .motor => { h with motor := { h.motor with motoring := max 0 (min e.e0 h.motor.motoring)
                                                         generating := max 0 (min e.e1 h.motor.generating) } }
            | .battery => { h with battery := { h.battery with pdis := max 0 (min e.e0 h.battery.pdis)
                                                               pchg := max 0 (min e.e1 h.battery.pchg)
                                                               paux := max 0 (min e.e2 h.battery.paux) } })

/-- A DECLARE while any other mode is published is refused WRONG_MODE with the envelope in force in its words; the envelope, the
source, the period copy and everything else are left, and no notice is raised (R26). -/
def Obligations.DeclareRefusedInOtherModes : Prop :=
  ∀ (r : Role) (p : PortId) (tag : Byte) (w : Words) (s : State), s.Admits (declareKind r) p → s.record.mode ≠ .init →
    s.record.mode ≠ .parked →
    ∃ t, exec ((declareKind r).command p tag w) s = .next t ∧ t = { s with ports := t.ports }
      ∧ Answered (declareKind r) p tag w .wrongMode
          ⟨BitVec.ofInt 16 (s.env.get r).e0, BitVec.ofInt 16 (s.env.get r).e1, BitVec.ofInt 16 (s.env.get r).e2,
            BitVec.ofInt 16 (s.env.get r).e3⟩ s t

/-! ### Speed unit -/

/-- A sample of the SPD pin. Pulse options 0 and 1 have the noise rejector on, 1 and 3 count rising edges (R143). A sample at the
filtered level sets the candidates to 0. One that differs is counted as a candidate while the rejector is on and fewer than two
stand; else it is an accepted edge: the filtered level takes it, the candidates return to 0, and the period count, which stops at
255, counts it if it has the counted polarity (R38, R39, R40). And with the rejector on, from no candidates, two samples at a new
level followed by one at the old change nothing in the unit, while three make the edge (R38). The command is a sample whatever
the sample divider's count (the model's choice, log 27). -/
def Obligations.SpdSampleFiltersEdges : Prop :=
  ∀ (level : Bool) (s : State), s.rstN = true →
    let u := s.spd
    let options := s.cal.active.pulseOptions
    let counted : Prop := if level then options = 1 ∨ options = 3 else ¬ (options = 1 ∨ options = 3)
    let edge (v : Spd) : Prop := v.count = (u.count + 1) ⊓ 255 ∧ counted ∨ v.count = u.count ∧ ¬ counted
    let accepted (v : Spd) : Prop := v = { u with filtered := level, candidate := 0, count := v.count } ∧ edge v
    (∃ t, exec (.spdSample level) s = .next t ∧ t = { s with spdPin := level, sampleDiv := 125, spd := t.spd }
      ∧ (level = u.filtered → t.spd = { u with candidate := 0 })
      ∧ (level ≠ u.filtered → (options = 0 ∨ options = 1) → u.candidate < 2 →
          t.spd = { u with candidate := u.candidate + 1 })
      ∧ (level ≠ u.filtered → (options = 0 ∨ options = 1) → 2 ≤ u.candidate → accepted t.spd)
      ∧ (level ≠ u.filtered → ¬ (options = 0 ∨ options = 1) → accepted t.spd))
    ∧ (level ≠ u.filtered → (options = 0 ∨ options = 1) → u.candidate = 0 →
      (∀ t, Runs [.spdSample level, .spdSample level, .spdSample (!level)] s t → t.spd = u)
      ∧ ∀ t, Runs [.spdSample level, .spdSample level, .spdSample level] s t → accepted t.spd)

/-- The speed unit's stage: the ring takes the period's count and keeps eight; n_pulse is the newest W counts' sum by 6000, divided by
teeth times W, rounded down, at most 9000. With the motor source LAPSED no comparison is made, the check and its runs are held, and
n_sel is n_pulse. Else the motor's speed is compared: beyond the larger of 150 and an eighth of the larger speed they disagree; D
verdicts in a row, counted to 100, change the check state and raise SPEED_CHECK_CHANGED; n_sel is the motor's speed while PLAUSIBLE,
else the larger. n_eff is the larger of n_sel and N_FLOOR. Nothing else changes (R41, R42, R44, R45, R47, R48, R49). -/
def Obligations.SpeedUnitStageSelectsTheSpeed : Prop :=
  ∀ s : State, s.rstN = true → s.stage = .spd →
    ∃ t, exec .speedUnitStage s = .next t
      ∧ let u := s.spd
        let v := t.spd
        let window := s.cal.active.window
        let dwell := s.cal.active.plausDwell
        t = { s with spd := v, stage := .mode, ntc := t.ntc }
          ∧ v = { u with ring := v.ring, nPulse := v.nPulse, nMotorUsed := v.nMotorUsed, absent := v.absent, check := v.check
                         disagree := v.disagree, agree := v.agree, nSel := v.nSel, nEff := v.nEff }
          ∧ v.ring = (u.boundaryCount :: u.ring).take 8
          ∧ v.nPulse = min 9000 (⌊(((v.ring.take window).sum * 6000 : ℕ) : ℚ) / ((s.cal.active.teeth * window : ℕ) : ℚ)⌋)
          ∧ v.nEff = max v.nSel s.cal.active.nFloor
          ∧ (s.snap.state.motor = .lapsed →
              v.nMotorUsed = 0 ∧ v.absent = true ∧ v.check = u.check ∧ v.disagree = u.disagree ∧ v.agree = u.agree
                ∧ v.nSel = v.nPulse ∧ Raised [] s t)
          ∧ ∀ n, s.snap.motor.speed = some n → s.snap.state.motor ≠ .lapsed →
              let differ : Prop := max 150 (max v.nPulse n / 8) < |v.nPulse - n|
              v.nMotorUsed = n ∧ v.absent = false
                ∧ v.nSel = (if v.check = .plausible then n else max v.nPulse n)
                ∧ (u.check = .plausible → ¬ differ →
                    v.check = .plausible ∧ v.disagree = 0 ∧ v.agree = u.agree ∧ Raised [] s t)
                ∧ (u.check = .plausible → differ → min 100 (u.disagree + 1) < dwell →
                    v.check = .plausible ∧ v.disagree = min 100 (u.disagree + 1) ∧ v.agree = u.agree ∧ Raised [] s t)
                ∧ (u.check = .plausible → differ → dwell ≤ min 100 (u.disagree + 1) →
                    v.check = .implausible ∧ v.disagree = 0 ∧ v.agree = u.agree ∧ Raised [.speedCheckChanged] s t)
                ∧ (u.check = .implausible → differ →
                    v.check = .implausible ∧ v.agree = 0 ∧ v.disagree = u.disagree ∧ Raised [] s t)
                ∧ (u.check = .implausible → ¬ differ → min 100 (u.agree + 1) < dwell →
                    v.check = .implausible ∧ v.agree = min 100 (u.agree + 1) ∧ v.disagree = u.disagree ∧ Raised [] s t)
                ∧ (u.check = .implausible → ¬ differ → dwell ≤ min 100 (u.agree + 1) →
                    v.check = .plausible ∧ v.agree = 0 ∧ v.disagree = u.disagree ∧ Raised [.speedCheckChanged] s t)

/-! ### Modes -/

/-- MODE's decision stage in every mode: the cool-off cut of R55, the two flags and their notices when they become set (R57, R58), the
electric path flag (R56), the start dwell run (R59), the stop dwell run, which is 0 but in a coupled mode that the decision keeps
coupled while the dwell stop condition holds (R60), and stop kind and destination NONE outside STOPPING (R51); nothing outside MODE
changes but the request handed to SEQ, the cut and the notices (R52). -/
def Obligations.ModeDecisionFlagsAndRuns : Prop :=
  ∀ s : State, s.rstN = true → s.stage = .mode →
    ∃ t, exec .modeDecision s = .next t
      ∧ t = { s with modeCtl := t.modeCtl, seq := t.seq, request := t.request, stage := .seq, ntc := t.ntc }
      ∧ (s.seq.avail = .cooling ∧ ¬ s.ElectricPath ∧ s.Present .engine →
          t.seq = { s.seq with avail := .available, coolOff := 0 })
      ∧ (¬ (s.seq.avail = .cooling ∧ ¬ s.ElectricPath ∧ s.Present .engine) → t.seq = s.seq)
      ∧ (t.modeCtl.zoneOverruled = true ↔ s.snap.vehicle.zone = true ∧ s.Breach)
      ∧ (t.modeCtl.overrideConflict = true ↔ s.snap.engine.force = true ∧ s.ZoneEffective)
      ∧ (t.modeCtl.electricPath = true ↔ s.ElectricPath)
      ∧ Raised ((if t.modeCtl.zoneOverruled ∧ ¬ s.modeCtl.zoneOverruled then [.zoneOverruled] else [])
          ++ (if t.modeCtl.overrideConflict ∧ ¬ s.modeCtl.overrideConflict then [.overrideConflict] else [])) s t
      ∧ t.modeCtl.startRun = s.startRunNow
      ∧ ((s.modeCtl.mode = .hybrid ∨ s.modeCtl.mode = .charge) ∧ (t.modeCtl.mode = .hybrid ∨ t.modeCtl.mode = .charge)
          ∧ s.DwellStop → t.modeCtl.stopRun = min 3000 (s.modeCtl.stopRun + 1))
      ∧ (¬ ((s.modeCtl.mode = .hybrid ∨ s.modeCtl.mode = .charge) ∧ (t.modeCtl.mode = .hybrid ∨ t.modeCtl.mode = .charge)
          ∧ s.DwellStop) → t.modeCtl.stopRun = 0)
      ∧ (t.modeCtl.mode ≠ .stopping → t.modeCtl.stopKind = .none ∧ t.modeCtl.stopDest = .none)

/-- The standing modes. INIT becomes PARKED on four FRESH sources and drive disabled, and nothing else (R61). PARKED becomes SAFE on
the SAFE entry conditions, else ELECTRIC on drive enabled (R62, R71). SAFE becomes PARKED on a FRESH vehicle source, a path
available, drive disabled and the sequencer OFF, and nothing else (R72). None makes a request to SEQ. -/
def Obligations.DecisionInStandingModes : Prop :=
  ∀ s : State, s.rstN = true → s.stage = .mode →
    ∃ t, exec .modeDecision s = .next t
      ∧ let ready : Prop := (∀ r, s.snap.state.get r = .fresh) ∧ s.snap.vehicle.drive = false
        let proof : Prop := s.snap.state.vehicle = .fresh ∧ (s.ElectricPath ∨ s.EnginePath) ∧ s.snap.vehicle.drive = false
          ∧ s.seq.state = .off
        (s.modeCtl.mode = .init → t.request = none ∧ (ready → t.modeCtl.mode = .parked) ∧ (¬ ready → t.modeCtl.mode = .init))
        ∧ (s.modeCtl.mode = .parked → t.request = none ∧ (s.SafeEntry → t.modeCtl.mode = .safe)
          ∧ (¬ s.SafeEntry → t.modeCtl.mode = if s.snap.vehicle.drive then .electric else .parked))
        ∧ (s.modeCtl.mode = .safe → t.request = none ∧ (proof → t.modeCtl.mode = .parked) ∧ (¬ proof → t.modeCtl.mode = .safe))

/-- ELECTRIC: SAFE entry, then drive disabled to PARKED, then a start, to STARTING with the start request, when the engine path is
available and a trigger holds, triggers (a) to (d) counting only while the zone is not effective; else ELECTRIC stays (R63, R71).
STARTING: SAFE entry, drive disabled and the zone effective abandon the start in that order; else it stays with no request (R64). -/
def Obligations.DecisionInElectricAndStarting : Prop :=
  ∀ s : State, s.rstN = true → s.stage = .mode →
    ∃ t, exec .modeDecision s = .next t
      ∧ let m := t.modeCtl
        let drive := s.snap.vehicle.drive
        (s.modeCtl.mode = .electric →
          (s.SafeEntry → m.mode = .safe ∧ t.request = none)
          ∧ (¬ s.SafeEntry → drive = false → m.mode = .parked ∧ t.request = none)
          ∧ (¬ s.SafeEntry → drive = true → s.EnginePath → s.Trigger → m.mode = .starting ∧ t.request = some .start)
          ∧ (¬ s.SafeEntry → drive = true → ¬ (s.EnginePath ∧ s.Trigger) → m.mode = .electric ∧ t.request = none))
        ∧ (s.modeCtl.mode = .starting →
          (s.SafeEntry → m.mode = .safe ∧ t.request = some .abandon)
          ∧ (¬ s.SafeEntry → drive = false →
              m.mode = .stopping ∧ m.stopKind = .immediate ∧ m.stopDest = .parked ∧ t.request = some .abandon)
          ∧ (¬ s.SafeEntry → drive = true → s.ZoneEffective →
              m.mode = .stopping ∧ m.stopKind = .immediate ∧ m.stopDest = .electric ∧ t.request = some .abandon)
          ∧ (¬ s.SafeEntry → drive = true → ¬ s.ZoneEffective → m.mode = .starting ∧ t.request = none))

/-- HYBRID and CHARGE: an immediate stop on any cause of R66, to SAFE on the SAFE entry conditions and else to STOPPING, PARKED as
destination exactly when drive is disabled, without unload exactly on an engine FAULT; else a dwell stop when the stop dwell run with
this snapshot is complete (R67); else HYBRID and CHARGE change on the two SoC thresholds (R68). -/
def Obligations.DecisionInHybridAndCharge : Prop :=
  ∀ s : State, s.rstN = true → s.stage = .mode → (s.modeCtl.mode = .hybrid ∨ s.modeCtl.mode = .charge) →
    ∃ t, exec .modeDecision s = .next t
      ∧ let m := t.modeCtl
        let soc := s.snap.battery.soc
        let complete : Prop := s.DwellStop ∧ s.cal.active.stopDwell ≤ min 3000 (s.modeCtl.stopRun + 1) ∨ s.cal.active.stopDwell = 0
        (s.ImmediateStop →
          t.request = some (if s.snap.engine.state = .fault then .stopNoUnload else .stopUnload)
            ∧ (s.SafeEntry → m.mode = .safe)
            ∧ (¬ s.SafeEntry → m.mode = .stopping ∧ m.stopKind = .immediate
                ∧ m.stopDest = if s.snap.vehicle.drive then .electric else .parked))
        ∧ (¬ s.ImmediateStop → complete →
            m.mode = .stopping ∧ m.stopKind = .dwell ∧ m.stopDest = .electric ∧ t.request = some .stopUnload)
        ∧ (¬ s.ImmediateStop → ¬ complete → t.request = none
            ∧ (s.modeCtl.mode = .hybrid → m.mode = if soc < s.cal.active.chargeOn then .charge else .hybrid)
            ∧ (s.modeCtl.mode = .charge → m.mode = if s.cal.active.chargeOff < soc then .hybrid else .charge))

/-- STOPPING: SAFE entry with no request; else drive disabled makes the stop immediate with destination PARKED, and the zone effective
or a FAULT makes it immediate (R69); a stop still of kind DWELL in UNLOAD is cancelled, with the cancel request, by triggers (a) to
(d) while the engine path is available, to CHARGE or HYBRID by the SoC (R70), whether or not (e) or (f) holds beside them (the model's
choice, log 24); else STOPPING stays with no request. -/
def Obligations.DecisionInStopping : Prop :=
  ∀ s : State, s.rstN = true → s.stage = .mode → s.modeCtl.mode = .stopping →
    ∃ t, exec .modeDecision s = .next t
      ∧ let m := t.modeCtl
        let drive := s.snap.vehicle.drive
        let immediate : Prop := drive = false ∨ s.ZoneEffective ∨ s.snap.engine.state = .fault ∨ s.modeCtl.stopKind ≠ .dwell
        let cancelled : Prop := s.seq.state = .unload ∧ ¬ immediate ∧ s.EnginePath ∧ s.GatedTrigger
        (s.SafeEntry → m.mode = .safe ∧ t.request = none)
        ∧ (¬ s.SafeEntry → cancelled → m.mode = s.coupledMode ∧ t.request = some .cancel)
        ∧ (¬ s.SafeEntry → ¬ cancelled → m.mode = .stopping ∧ t.request = none
            ∧ m.stopDest = (if drive then s.modeCtl.stopDest else .parked)
            ∧ (drive = false ∨ s.ZoneEffective ∨ s.snap.engine.state = .fault → m.stopKind = .immediate)
            ∧ (¬ (drive = false ∨ s.ZoneEffective ∨ s.snap.engine.state = .fault) → m.stopKind = s.modeCtl.stopKind))

/-- The part publishes no engine command START in a record whose snapshot has the zone effective (R64): from every state with the
mode and sequencer pairs of chapter 4.1. -/
def Obligations.NoStartCommandInAnEffectiveZone : Prop :=
  ∀ s t : State, s.Paired → s.rstN = true → s.stage = .mode →
    Runs [.modeDecision, .sequencerStage, .splitStage, .publication] s t → s.ZoneEffective → t.record.engineCmd ≠ .start

/-- The mode of the record that an operation publishes is one that rules R61 to R73 allow after the mode settled before: so INIT is
left for PARKED alone, SAFE for PARKED alone, and STARTING is entered from ELECTRIC alone. -/
def Obligations.OnlyTheseModeChanges : Prop :=
  ∀ s t : State, s.Paired → s.rstN = true → s.stage = .mode →
    Runs [.modeDecision, .sequencerStage, .splitStage, .publication] s t → t.record.mode ∈ nextModes s.modeCtl.mode

/-! ### Sequencer -/

/-- The requests of MODE at SEQ's stage: each takes the listed state to its new one, the wait timer at the new state's row or 0, an
abandoned start raising START_ABANDONED (R81, R88); a FAULT read outside OFF also records FAULT and makes the engine UNAVAILABLE,
with ENGINE_UNAVAILABLE unless it was so already (R93). The attempt count, failure pending and the mode stay (R81, R88). The time
spent in a wait, 0 on entry here and below, is the model's own field (log 23). -/
def Obligations.SequencerTakesRequests : Prop :=
  ∀ s : State, s.rstN = true → s.stage = .seq → s.seq.avail ≠ .cooling →
    ∃ t, exec .sequencerStage s = .next t
      ∧ let q := s.seq
        let row := s.cal.active
        let fault : Bool := s.snap.engine.state = .fault ∧ q.state ≠ .off
        let taken (r : Request) (now : SeqState) (timer : Nat) (notices : List NoticeKind) : Prop := s.request = some r →
          t.seq = { q with state := now, timer := timer, syncRun := 0, spent := 0
                           avail := if fault then .unavailable else q.avail
                           lastReason := if fault then .fault else q.lastReason }
            ∧ Raised ((if fault ∧ q.avail ≠ .unavailable then [.engineUnavailable] else []) ++ notices) s t
            ∧ t = { s with seq := t.seq, request := none, stage := .split, ntc := t.ntc }
        (q.state = .off → taken .start .crankWait row.crankTimeout [])
        ∧ (q.state = .crankWait ∨ q.state = .speedSync → taken .abandon .offWait row.offTimeout [.startAbandoned])
        ∧ (q.state = .clutchWait → taken .abandon .clutchRelease row.clutchTimeout [.startAbandoned])
        ∧ (q.state = .coupled → taken .stopUnload .unload 0 [] ∧ taken .stopNoUnload .clutchRelease row.clutchTimeout [])
        ∧ (q.state = .unload → taken .cancel .coupled 0 [])

/-- A FAULT in the snapshot with no request (R93): in a start state the start fails, counted up to the retry limit plus one, with
failure pending and START_FAILED, and its shutdown begins (R85), STARTING becoming an immediate stop to ELECTRIC (R53); COUPLED and
UNLOAD go to CLUTCH_RELEASE; each makes the engine UNAVAILABLE with reason FAULT, ENGINE_UNAVAILABLE unless it was so already. In OFF
it changes nothing. In CLUTCH_RELEASE and OFF_WAIT it acts on the availability alone: with the engine UNAVAILABLE for reason FAULT,
and ENGINE_UNAVAILABLE raised once (R94), progress and timeout act as though the engine had been read CRANKING or RUNNING and no
FAULT (R93, R90, R92), and the engine is UNAVAILABLE afterwards. Where the wait times out at that stage too, the reason that stands
is the timeout's (the model's reading, log 17). -/
def Obligations.FaultMovesTheSequencer : Prop :=
  ∀ s : State, s.rstN = true → s.stage = .seq → s.seq.avail ≠ .cooling → s.request = none → s.snap.engine.state = .fault →
    ∃ t, exec .sequencerStage s = .next t
      ∧ t = { s with seq := t.seq, modeCtl := t.modeCtl, request := none, stage := .split, ntc := t.ntc }
      ∧ let q := s.seq
        let row := s.cal.active
        let lost : List NoticeKind := if q.avail = .unavailable then [] else [.engineUnavailable]
        let failed (now : SeqState) (timer : Nat) : Prop :=
          t.seq = { q with state := now, timer := timer, syncRun := 0, spent := 0, avail := .unavailable, lastReason := .fault
                           attempts := min (row.retryLimit + 1) (q.attempts + 1), failurePending := true }
            ∧ Raised (lost ++ [.startFailed]) s t
            ∧ t.modeCtl = if s.modeCtl.mode = .starting
                then { s.modeCtl with mode := .stopping, stopKind := .immediate, stopDest := .electric } else s.modeCtl
        (q.state = .crankWait ∨ q.state = .speedSync → failed .offWait row.offTimeout)
        ∧ (q.state = .clutchWait → failed .clutchRelease row.clutchTimeout)
        ∧ (q.state = .coupled ∨ q.state = .unload →
            t.seq = { q with state := .clutchRelease, timer := row.clutchTimeout, syncRun := 0, spent := 0, avail := .unavailable
                             lastReason := .fault }
              ∧ Raised lost s t ∧ t.modeCtl = s.modeCtl)
        ∧ (q.state = .off → t.seq = q ∧ Raised [] s t ∧ t.modeCtl = s.modeCtl)
        ∧ (q.state = .clutchRelease ∨ q.state = .offWait → t.seq.avail = .unavailable ∧ Raised lost s t
            ∧ ∀ read, read = .cranking ∨ read = .running → ∃ u,
              exec .sequencerStage { s with seq := { q with avail := .unavailable, lastReason := .fault }
                                            snap := { s.snap with engine := { s.snap.engine with state := read } } } = .next u
                ∧ t = { u with ntc := t.ntc, snap := s.snap })

/-- Progress of a start, with no request: RUNNING ends CRANK_WAIT (R82); the sync run, counted to 50 while RUNNING within the sync band
of n_sel and else 0, ends SPEED_SYNC at sync dwell (R83); CLOSED ends CLUTCH_WAIT in COUPLED with the attempt count 0, and STARTING
becomes HYBRID or CHARGE (R84, R53). Without progress the wait goes on, one period less on its timer (R80). No notice is raised. -/
def Obligations.StartProgresses : Prop :=
  ∀ s : State, s.rstN = true → s.stage = .seq → s.seq.avail ≠ .cooling → s.request = none → s.snap.engine.state ≠ .fault →
    ∃ t, exec .sequencerStage s = .next t
      ∧ let q := s.seq
        let row := s.cal.active
        let quiet : Prop := Raised [] s t
          ∧ t = { s with seq := t.seq, modeCtl := t.modeCtl, request := none, stage := .split, ntc := t.ntc }
        let enters (now : SeqState) (timer : Nat) : Prop :=
          quiet ∧ t.seq = { q with state := now, timer := timer, syncRun := 0, spent := 0 } ∧ t.modeCtl = s.modeCtl
        let waits (run : Nat) : Prop :=
          q.timer ≠ 1 → quiet ∧ t.modeCtl = s.modeCtl
            ∧ t.seq = { q with timer := q.timer - 1, spent := if q.timer = 0 then q.spent else q.spent + 1, syncRun := run }
        let inBand : Prop := s.snap.engine.state = .running ∧ |s.snap.engine.speed - s.spd.nSel| ≤ row.syncBand
        (q.state = .crankWait →
          (s.snap.engine.state = .running → enters .speedSync row.syncTimeout)
          ∧ (s.snap.engine.state ≠ .running → waits q.syncRun))
        ∧ (q.state = .speedSync →
          (inBand → row.syncDwell ≤ min 50 (q.syncRun + 1) → enters .clutchWait row.clutchTimeout)
          ∧ (inBand → min 50 (q.syncRun + 1) < row.syncDwell → waits (min 50 (q.syncRun + 1)))
          ∧ (¬ inBand → 0 < row.syncDwell → waits 0))
        ∧ (q.state = .clutchWait →
          (s.snap.engine.clutch = .closed →
            quiet ∧ t.seq = { q with state := .coupled, timer := 0, syncRun := 0, spent := 0, attempts := 0 }
              ∧ t.modeCtl = if s.modeCtl.mode = .starting
                  then { s.modeCtl with mode := s.coupledMode, stopKind := .none, stopDest := .none } else s.modeCtl)
          ∧ (s.snap.engine.clutch ≠ .closed → waits q.syncRun))
        ∧ (q.state = .coupled → quiet ∧ t.seq = q ∧ t.modeCtl = s.modeCtl)

/-- Progress of a stop, with no request: a Te of 0 in the record ends UNLOAD, which has no timeout (R89; a FAULT there is the statement
above's); OPEN from a source not LAPSED ends CLUTCH_RELEASE, FAULT or not (R90, R93); OFF ends OFF_WAIT in OFF with stop complete, a
pending failure deciding between COOLING and UNAVAILABLE by the attempt count (R86, R92), and STOPPING becomes its destination (R73).
Without progress the wait goes on, FAULT or not (R80, R92). In CLUTCH_RELEASE and OFF_WAIT a FAULT makes the engine UNAVAILABLE with
reason FAULT beside this, ENGINE_UNAVAILABLE raised unless it was so already (R93). In OFF an UNAVAILABLE engine is restored by a
present source that reads OFF and ready, and a FAULT changes nothing (R93, R95). -/
def Obligations.StopProgresses : Prop :=
  ∀ s : State, s.rstN = true → s.stage = .seq → s.seq.avail ≠ .cooling → s.request = none →
    ∃ t, exec .sequencerStage s = .next t
      ∧ let q := s.seq
        let row := s.cal.active
        let fault : Bool := s.snap.engine.state = .fault
        let hit : Seq := if fault then { q with avail := .unavailable, lastReason := .fault } else q
        let lost : List NoticeKind := if fault ∧ q.avail ≠ .unavailable then [.engineUnavailable] else []
        let does (now : Seq) (ctl : ModeCtl) (notices : List NoticeKind) : Prop :=
          Raised notices s t ∧ t = { s with seq := now, modeCtl := ctl, request := none, stage := .split, ntc := t.ntc }
        let waits : Prop := q.timer ≠ 1 →
          does { hit with timer := q.timer - 1, spent := if q.timer = 0 then q.spent else q.spent + 1 } s.modeCtl lost
        let off : Seq := { q with state := .off, timer := 0, syncRun := 0, spent := 0, failurePending := false }
        let settled : ModeCtl := if s.modeCtl.mode = .stopping
          then { s.modeCtl with mode := s.modeCtl.stopDest.mode .stopping, stopKind := .none, stopDest := .none } else s.modeCtl
        (q.state = .unload → s.snap.engine.state ≠ .fault →
          (s.record.te = 0 →
            does { q with state := .clutchRelease, timer := row.clutchTimeout, syncRun := 0, spent := 0 } s.modeCtl [])
          ∧ (s.record.te ≠ 0 → does q s.modeCtl []))
        ∧ (q.state = .clutchRelease →
          (s.snap.engine.clutch = .opened ∧ s.Present .engine →
            does { hit with state := .offWait, timer := row.offTimeout, syncRun := 0, spent := 0 } s.modeCtl lost)
          ∧ (¬ (s.snap.engine.clutch = .opened ∧ s.Present .engine) → waits))
        ∧ (q.state = .offWait →
          (s.snap.engine.state = .off →
            (q.failurePending = false ∨ q.avail = .unavailable → does off settled [])
            ∧ (q.failurePending = true → q.avail = .available → q.attempts ≤ row.retryLimit →
                does { off with avail := .cooling, coolOff := row.coolOff } settled [])
            ∧ (q.failurePending = true → q.avail = .available → row.retryLimit < q.attempts →
                does { off with avail := .unavailable } settled [.engineUnavailable]))
          ∧ (s.snap.engine.state ≠ .off → waits))
        ∧ (q.state = .off →
          let ready : Prop := q.avail = .unavailable ∧ s.Present .engine ∧ s.snap.engine.state = .off ∧ s.snap.engine.ready = true
          (ready → does { q with avail := .available, attempts := 0 } s.modeCtl [.engineRestored]) ∧ (¬ ready → does q s.modeCtl []))

/-- The five timeouts, each at the stage that brings the wait timer of its state to 0 while the snapshot shows no progress, and then the
same as SEQ's stage (log 8). A start fails with the timeout's reason, is counted, and its shutdown begins, the availability unchanged
(R82 to R85): SPEED_SYNC also where the engine is RUNNING outside the band or its sync run is below sync dwell. The clutch release
timeout leaves CLUTCH_RELEASE, takes the engine UNAVAILABLE and the mode to SAFE (R91); the off timeout reaches OFF with the engine
UNAVAILABLE and stop complete (R92); both whether or not the engine reads FAULT or its source has lapsed, ENGINE_UNAVAILABLE being
raised once and the timeout's reason standing (R94; log 17). A timeout command whose condition does not hold changes nothing
(log 8). -/
def Obligations.WaitsTimeOut : Prop :=
  (∀ s : State, s.rstN = true → s.stage = .seq → s.request = none → s.seq.avail ≠ .cooling → s.seq.timer = 1 →
    s.seqInput.Stands s.seq.syncRun s.seq.state →
    let q := s.seq
    let row := s.cal.active
    let lost : List NoticeKind := if q.avail = .unavailable then [] else [.engineUnavailable]
    let times (c : Instr) (now : Seq) (ctl : ModeCtl) (notices : List NoticeKind) : Prop :=
      ∃ t, exec c s = .next t ∧ exec .sequencerStage s = .next t ∧ Raised notices s t
        ∧ t = { s with seq := now, modeCtl := ctl, request := none, stage := .split, ntc := t.ntc }
    let fails (c : Instr) (why : LastReason) (now : SeqState) (timer : Nat) : Prop :=
      times c { q with state := now, timer := timer, syncRun := 0, spent := 0, lastReason := why
                       attempts := min (row.retryLimit + 1) (q.attempts + 1), failurePending := true }
        (if s.modeCtl.mode = .starting
          then { s.modeCtl with mode := .stopping, stopKind := .immediate, stopDest := .electric } else s.modeCtl) [.startFailed]
    (q.state = .crankWait → fails .crankTimeout .crankTimeout .offWait row.offTimeout)
    ∧ (q.state = .speedSync → fails .syncTimeout .syncTimeout .offWait row.offTimeout)
    ∧ (q.state = .clutchWait → fails .clutchTimeout .clutchTimeout .clutchRelease row.clutchTimeout)
    ∧ (q.state = .clutchRelease →
        times .releaseTimeout
          { q with timer := 0, spent := q.spent + 1, avail := .unavailable, lastReason := .releaseTimeout }
          { s.modeCtl with mode := .safe, stopKind := .none, stopDest := .none } lost)
    ∧ (q.state = .offWait →
        times .offTimeout { q with state := .off, timer := 0, syncRun := 0, spent := 0, avail := .unavailable
                                   lastReason := .offTimeout, failurePending := false }
          (if s.modeCtl.mode = .stopping
            then { s.modeCtl with mode := s.modeCtl.stopDest.mode .stopping, stopKind := .none, stopDest := .none } else s.modeCtl)
          lost))
  ∧ ∀ (c : Instr) (st : SeqState) (s : State),
    (c, st) ∈ [(Instr.crankTimeout, SeqState.crankWait), (.syncTimeout, .speedSync), (.clutchTimeout, .clutchWait),
      (.releaseTimeout, .clutchRelease), (.offTimeout, .offWait)] →
    ¬ (s.rstN = true ∧ s.stage = .seq ∧ s.request = none ∧ s.seq.state = st ∧ s.seq.timer = 1
        ∧ s.seqInput.Stands s.seq.syncRun st) → exec c s = .next s

/-- While COOLING with no request, SEQ's stage decreases the cool-off counter by one and nothing else; at 0, which is the command
COOL_OFF_END too (log 8; with more than one period left that changes nothing), the engine is AVAILABLE at that stage, whatever the
engine reads (R87). -/
def Obligations.CoolOffCountsDown : Prop :=
  ∀ s : State, s.rstN = true → s.stage = .seq → s.request = none → s.seq.state = .off → s.seq.avail = .cooling →
    let does (c : Instr) (now : Seq) : Prop :=
      ∃ t, exec c s = .next t ∧ t = { s with seq := now, request := none, stage := .split }
    (1 < s.seq.coolOff → does .sequencerStage { s.seq with coolOff := s.seq.coolOff - 1 } ∧ exec .coolOffEnd s = .next s)
    ∧ (s.seq.coolOff ≤ 1 → does .sequencerStage { s.seq with avail := .available, coolOff := 0 }
        ∧ does .coolOffEnd { s.seq with avail := .available, coolOff := 0 })

/-- A wait whose timer stands at T judges T snapshots: while fewer than T have been judged and each left it standing, without progress
and without a FAULT that decides, the state stands, its timer lower by each of them, and it times out at the stage of the T-th (R80).
A commit applied at the boundary before the first of them, old set and new, leaves T where it keeps the row of the state; where it
changes the row, it lowers a T above the new row to it; but where it lowers the row below the time already spent in the wait, T
becomes 1, so the wait times out at that boundary (R96, R156, which disagree here; the model's choice and its count of the time
spent, log 23). -/
def Obligations.AWaitLastsItsTimeout : Prop :=
  ∀ (q : Seq) (applied : Option (CalSet × CalSet)) (l : List SeqInput), q.avail ≠ .cooling → 0 < q.timer →
    (∀ c, applied = some c → c.2.validate = .none) →
    (∀ (m : Nat) (i : SeqInput), l[m]? = some i → i.Stands ((l.take m).foldl (fun run j => j.runNow run) q.syncRun) q.state) →
    q.state ∈ [.crankWait, .speedSync, .clutchWait, .clutchRelease, .offWait] →
    let wait : Nat := match applied with
      | none => q.timer
      | some c =>
        let old := c.1.timeoutOf q.state
        let row := c.2.timeoutOf q.state
        if row = old then q.timer else if row < old ∧ row < q.spent then 1 else min q.timer row
    let begun : Seq := match applied with
      | none => q
      | some c => q.adjust c.1 c.2
    let after := l.foldl (fun q i => (i.step none q).seq) begun
    (l.length < wait →
      after.state = q.state ∧ after.timer = wait - l.length ∧ after.spent = q.spent + l.length)
    ∧ (l.length = wait →
      (q.state = .crankWait → after.state = .offWait ∧ after.lastReason = .crankTimeout)
      ∧ (q.state = .speedSync → after.state = .offWait ∧ after.lastReason = .syncTimeout)
      ∧ (q.state = .clutchWait → after.state = .clutchRelease ∧ after.lastReason = .clutchTimeout)
      ∧ (q.state = .clutchRelease → after.state = .clutchRelease ∧ after.timer = 0 ∧ after.lastReason = .releaseTimeout)
      ∧ (q.state = .offWait → after.state = .off ∧ after.lastReason = .offTimeout))

/-! ### Split engine -/

/-- SPLIT's stage, for the mode, the sequencer state and the snapshot: the effective demand, which decays in SAFE (R105, R106); the
motor's bounds from the battery's powers, rounded down (R107 to R109); the engine's bounds under RUN and CLOSE (R111); the wish, zero
but in HYBRID and CHARGE, in the balance window, the engine's ramp window and its bounds (R112, R115, R116); the motor's share in its
own ramp window and bounds (R118); grants of 0 in INIT and PARKED (R119); the remainder as Tb or Tu (R120). A run of unmet demand that
reaches its dwell while armed raises SHORTFALL once (R123). Nothing else changes (R125). -/
def Obligations.SplitStageSharesTheDemand : Prop :=
  ∀ s : State, s.Bounded → s.rstN = true → s.stage = .split →
    ∃ t, exec .splitStage s = .next t
      ∧ t = { s with split := t.split, splitOut := t.splitOut, stage := .publish, ntc := t.ntc }
      ∧ let o := t.splitOut
        let v := s.snap
        let row := s.cal.active
        let mode := s.modeCtl.mode
        let prev := s.split
        let tDis : ℤ := ⌊((max 0 (v.battery.pdis - v.battery.paux) * row.eta * 9549 : ℤ) : ℚ) / ((10 * 1000 * s.spd.nEff : ℤ) : ℚ)⌋
        let tChg : ℤ := ⌊(((v.battery.pchg + v.battery.paux) * 1000 * 9549 : ℤ) : ℚ) / ((10 * row.eta * s.spd.nEff : ℤ) : ℚ)⌋
        let line := interpolate row.line.toList s.spd.nSel
        let rampE := s.envCopy.engine.e2
        let rampM := s.envCopy.motor.e2
        let standing : Prop := mode = .init ∨ mode = .parked
        let within (lo hi x : Int) : Int := max lo (min hi x)
        let share (want : Int) : Int := within o.teLo o.teHi
          (within (prev.prevTe - rampE) (prev.prevTe + rampE) (within (o.td - o.tmHi) (o.td - o.tmLo) want))
        (standing → o.td = 0 ∧ o.te = 0 ∧ o.tm = 0)
          ∧ (mode = .safe → o.td = if 0 ≤ prev.prevTd then max 0 (prev.prevTd - s.envCopy.vehicle.e2)
              else min 0 (prev.prevTd + s.envCopy.vehicle.e2))
          ∧ (¬ standing → mode ≠ .safe → o.td = v.vehicle.demand)
          ∧ o.tmHi = min (min v.motor.motoring tDis) 1000
          ∧ o.tmLo = -min (min (min v.motor.generating tChg) v.vehicle.regenCap) 1000
          ∧ (s.seq.state = .coupled ∨ s.seq.state = .unload → o.teHi = v.engine.maxTorque ∧ o.teLo = -v.engine.drag)
          ∧ (s.seq.state ≠ .coupled → s.seq.state ≠ .unload → o.teHi = 0 ∧ o.teLo = 0)
          ∧ (mode = .hybrid → o.te = share line)
          ∧ (mode = .charge → o.te = share (line + interpolate row.offset.toList v.battery.soc))
          ∧ (¬ standing → mode ≠ .hybrid → mode ≠ .charge → o.te = share 0)
          ∧ (¬ standing → o.tm = within o.tmLo o.tmHi (within (prev.prevTm - rampM) (prev.prevTm + rampM) (o.td - o.te)))
          ∧ o.tb = min 0 (o.td - o.te - o.tm) ∧ o.tu = max 0 (o.td - o.te - o.tm) ∧ o.nSel = s.spd.nSel
          ∧ (o.tu = 0 → t.split = { prev with shortfallRun := 0, armed := true } ∧ Raised [] s t)
          ∧ (0 < o.tu → row.shortfallDwell ≤ min 1000 (prev.shortfallRun + 1) → prev.armed = true →
              t.split = { prev with shortfallRun := min 1000 (prev.shortfallRun + 1), armed := false } ∧ Raised [.shortfall] s t)
          ∧ (0 < o.tu → (min 1000 (prev.shortfallRun + 1) < row.shortfallDwell ∨ prev.armed = false) →
              t.split = { prev with shortfallRun := min 1000 (prev.shortfallRun + 1) } ∧ Raised [] s t)

/-- Both tables are read by linear interpolation between strictly increasing breakpoints: the first value at or below the first row,
the last at or above the last row, and between two rows the lower row's value plus the quotient rounded to nearest, a half away from
zero, which lies between the two rows' values (R113). -/
def Obligations.InterpolationRounds : Prop :=
  ∀ (rows : List Row) (x : Int), (rows.map Row.x).Pairwise (· < ·) →
    (∀ r, rows.head? = some r → x ≤ r.x → interpolate rows x = r.y)
    ∧ (∀ r, rows.getLast? = some r → r.x ≤ x → interpolate rows x = r.y)
    ∧ ∀ (i : Nat) (a b : Row), rows[i]? = some a → rows[i + 1]? = some b → a.x ≤ x → x < b.x →
        let quotient : ℚ := (((b.y - a.y) * (x - a.x) : ℤ) : ℚ) / ((b.x - a.x : ℤ) : ℚ)
        let n := interpolate rows x - a.y
        |(n : ℚ) - quotient| ≤ 1 / 2 ∧ (|(n : ℚ) - quotient| = 1 / 2 → |quotient| < |(n : ℚ)|)
          ∧ min a.y b.y ≤ interpolate rows x ∧ interpolate rows x ≤ max a.y b.y

/-- The battery prediction: the motor power term of the granted torque at n_sel, its magnitude rounded up, plus Paux (R121). With the
part's quantities in their ranges the prediction keeps within the battery's limits, −Pchg to the larger of Pdis and Paux, the
saturation to ±3000 changes nothing, and the term lies in −3200..3000 (R122). -/
def Obligations.BatteryPredictionWithinLimits : Prop :=
  ∀ s t : State, s.Bounded → s.rstN = true → s.stage = .split → exec .splitStage s = .next t →
    let o := t.splitOut
    let eta := s.cal.active.eta
    let b := s.snap.battery
    (0 ≤ o.tm → o.motorTerm = ⌈((o.tm * s.spd.nSel * 10 * 1000 : ℤ) : ℚ) / ((9549 * eta : ℤ) : ℚ)⌉)
    ∧ (o.tm < 0 → o.motorTerm = -⌈((|o.tm| * s.spd.nSel * 10 * eta : ℤ) : ℚ) / ((9549 * 1000 : ℤ) : ℚ)⌉)
    ∧ o.pBatt = o.motorTerm + b.paux ∧ -b.pchg ≤ o.pBatt ∧ o.pBatt ≤ max b.pdis b.paux ∧ Between (-3200) 3000 o.motorTerm

/-! ### Record store -/

/-- PUBLICATION replaces the record whole: the epoch after the last, modulo 65536, and each field from the block that owns it, with the
commands of the sequencer state (R78, R128, R130); SPLIT's previous copies and the EPOCH pin go with it (R102, R131), and MODE_CHANGED
is raised on a change of mode, or of sequencer state in STARTING or STOPPING (R54, R129). The pulse then ends, and nothing else
changes (R131); its 160 REFCLK cycles are the model's 20 µs (log 2), and EPOCH_PULSE_END ends it
at whatever count it stands (log 27). -/
def Obligations.PublicationReplacesTheRecord : Prop :=
  ∀ s : State, s.rstN = true →
    (s.stage = .publish → ∃ t, exec .publication s = .next t
      ∧ let o := s.splitOut
        let r := t.record
        t = { s with record := r, split := { s.split with prevTd := r.td, prevTe := r.te, prevTm := r.tm }, epochPin := true
                     epochTimer := 160, stage := .idle, ntc := t.ntc }
          ∧ r.epoch.toNat = (s.record.epoch.toNat + 1) % 65536
          ∧ r = { r with mode := s.modeCtl.mode, seqState := s.seq.state, electricAvail := s.modeCtl.electricPath
                         engineAvail := s.seq.avail, derating := s.snap.motor.derating, origin := s.cal.origin, td := o.td, te := o.te
                         tm := o.tm, tb := o.tb, tu := o.tu, tmHi := o.tmHi, tmLo := o.tmLo, teHi := o.teHi, teLo := o.teLo
                         nSel := o.nSel, pBatt := o.pBatt, motorTerm := o.motorTerm }
          ∧ (r.seqState, r.engineCmd, r.clutchCmd) ∈ [(.off, .off, .opened), (.crankWait, .start, .opened),
              (.speedSync, .sync, .opened), (.clutchWait, .sync, .close), (.coupled, .run, .close), (.unload, .run, .close),
              (.clutchRelease, .run, .opened), (.offWait, .stop, .opened)]
          ∧ Raised (if r.mode ≠ s.record.mode ∨ ((r.mode = .starting ∨ r.mode = .stopping) ∧ r.seqState ≠ s.record.seqState)
              then [.modeChanged] else []) s t)
    ∧ exec .epochPulseEnd s = .next { s with epochPin := false, epochTimer := 0 }

/-- READ_GRANT answers OK with the view of the port's role of the record REC holds, the engine's W3 being n_sel under SYNC and Te_hi
else (R134, R135), and changes nothing else. READ_SPLIT of page 0 copies that record into the port's page snapshot; pages 0 to 3 are
answered OK from that snapshot; a higher page is BAD_ARGUMENT with words 0 and leaves it; nothing else changes (R137 to R139). The
packed words are those of R190. -/
def Obligations.GrantViewsAndPages : Prop :=
  ∀ (p : PortId) (tag : Byte) (w : Words) (s : State), s.Live p → s.Enabled p →
    let num (x : Int) : Word := BitVec.ofInt 16 x
    (∃ t, exec (.readGrant p tag w) s = .next t ∧ t = { s with ports := t.ports }
      ∧ let r := s.record
        let v := (t.ports.get p).held.words
        Answered .readGrant p tag w .ok v s t ∧ v.w0 = r.epoch
          ∧ ((s.ports.get p).role = .vehicle → ModeWord r v.w1 ∧ v.w2 = num r.tb ∧ v.w3 = num r.tu)
          ∧ ((s.ports.get p).role = .engine →
              CommandWord r v.w1 ∧ v.w2 = num r.te ∧ v.w3 = num (if r.engineCmd = .sync then r.nSel else r.teHi))
          ∧ ((s.ports.get p).role = .motor → v.w1 = num r.tm ∧ v.w2 = num r.tmHi ∧ v.w3 = num r.tmLo)
          ∧ ((s.ports.get p).role = .battery → ModeWord r v.w1 ∧ v.w2 = num r.pBatt ∧ v.w3 = num r.motorTerm))
    ∧ ∃ t, exec (.readSplit p tag w) s = .next t ∧ t = { s with ports := t.ports }
      ∧ let r := if w.w0 = 0 then s.record else (s.ports.get p).page
        let v := (t.ports.get p).held.words
        (w.w0.toNat ≤ 3 → FrameDone p (requestBits .readSplit tag w) ⟨.ok, tag, v⟩ r s t ∧ v.w0 = r.epoch
          ∧ (w.w0.toNat = 0 → ModeWord r v.w1 ∧ v.w2 = num r.td ∧ v.w3 = num r.pBatt)
          ∧ (w.w0.toNat = 1 → v.w1 = num r.te ∧ v.w2 = num r.tm ∧ v.w3 = num r.tb)
          ∧ (w.w0.toNat = 2 → v.w1 = num r.tu ∧ v.w2 = num r.tmHi ∧ v.w3 = num r.tmLo)
          ∧ (w.w0.toNat = 3 → v.w1 = num r.teHi ∧ v.w2 = num r.teLo ∧ v.w3 = num r.nSel))
        ∧ (3 < w.w0.toNat → Answered .readSplit p tag w .badArgument zeroWords s t)

/-! ### Calibration store -/

/-- CLAIM, RELEASE and COMMIT, by the slot as the request finds it: free, held by the requester with nothing or a commit pending, held
by another port. A granted CLAIM copies the active set into the staging set, a repeated one leaves all; a RELEASE frees the slot; a
COMMIT is marked pending; each refusal leaves the store. The answer's words are the calibration status afterwards; nothing else
changes (R145, R146, R147, R152, R159). -/
def Obligations.ClaimReleaseCommit : Prop :=
  ∀ (p : PortId) (tag : Byte) (w : Words) (s : State), s.Live p → s.Enabled p →
    let answers (k : FrameKind) (result : ResultCode) (claim : Option Claim) : Prop :=
      ∃ t, exec (k.command p tag w) s = .next t
        ∧ t = { s with ports := t.ports, cal := { s.cal with claim := claim } }
        ∧ Answered k p tag w result (t.ports.get p).held.words s t ∧ CalStatus t (t.ports.get p).held.words
    (s.cal.claim = none →
      answers .claim .ok (some ⟨p, s.cal.active, false⟩) ∧ answers .release .noClaim none ∧ answers .commit .noClaim none)
    ∧ ∀ c, s.cal.claim = some c →
      (c.holder ≠ p → answers .claim .held (some c) ∧ answers .release .notHolder (some c) ∧ answers .commit .notHolder (some c))
      ∧ (c.holder = p → c.pending = false →
          answers .claim .ok (some c) ∧ answers .release .ok none ∧ answers .commit .accepted (some { c with pending := true }))
      ∧ (c.holder = p → c.pending = true →
          answers .claim .ok (some c) ∧ answers .release .busy (some c) ∧ answers .commit .busy (some c))

/-- LOAD_ROW: refused in the order NO_CLAIM, NOT_HOLDER, BUSY, BAD_ARGUMENT with words 0, changing nothing; else the addressed row of
the staging set takes the values as sent, table 2 the first alone, no other row changes, and the answer echoes the row as stored
(R149, R150). Table 0 has 12 rows, table 1 has 6, table 2 has 27. -/
def Obligations.LoadRowReplacesOneStagedRow : Prop :=
  ∀ (p : PortId) (tag : Byte) (w : Words) (s : State), s.Live p → s.Enabled p →
    let table := w.w0.toNat
    let index := w.w1.toNat
    let bad : Prop := 2 < table ∨ (table = 0 ∧ 12 ≤ index) ∨ (table = 1 ∧ 6 ≤ index) ∨ (table = 2 ∧ 27 ≤ index)
    ∃ t, exec (.loadRow p tag w) s = .next t
      ∧ let refused (result : ResultCode) : Prop :=
          Answered .loadRow p tag w result zeroWords s t ∧ t = { s with ports := t.ports }
        (s.cal.claim = none → refused .noClaim)
        ∧ ∀ c, s.cal.claim = some c →
          (c.holder ≠ p → refused .notHolder)
          ∧ (c.holder = p → c.pending = true → refused .busy)
          ∧ (c.holder = p → c.pending = false → bad → refused .badArgument)
          ∧ (c.holder = p → c.pending = false → ¬ bad →
              Answered .loadRow p tag w .ok ⟨w.w0, w.w1, w.w2, if table = 2 then 0 else w.w3⟩ s t
                ∧ t = { s with ports := t.ports, cal := t.cal }
                ∧ ∃ d, t.cal = { s.cal with claim := some d } ∧ d.holder = c.holder ∧ d.pending = c.pending
                  ∧ (∀ i : Fin 12, d.staging.line[i] =
                      if table = 0 ∧ i.val = index then ⟨w.w2.toInt, w.w3.toInt⟩ else c.staging.line[i])
                  ∧ (∀ i : Fin 6, d.staging.offset[i] =
                      if table = 1 ∧ i.val = index then ⟨w.w2.toInt, w.w3.toInt⟩ else c.staging.offset[i])
                  ∧ ∀ i : Fin 27, d.staging.thr[i] = if table = 2 ∧ i.val = index then w.w2.toInt else c.staging.thr[i])

/-- READ_ROW: bit 0 of W2 chooses the staging set, refused NO_CLAIM on a free slot and NOT_HOLDER to any other port; else the active
set. A row that does not exist is BAD_ARGUMENT; a refusal's words are 0; a row is answered OK in the form of LOAD_ROW's echo, pending
or not. Nothing else changes (R151). -/
def Obligations.ReadRowReadsEitherSet : Prop :=
  ∀ (p : PortId) (tag : Byte) (w : Words) (s : State), s.Live p → s.Enabled p →
    let table := w.w0.toNat
    let index := w.w1.toNat
    let num (x : Int) : Word := BitVec.ofInt 16 x
    ∃ t, exec (.readRow p tag w) s = .next t ∧ t = { s with ports := t.ports }
      ∧ let answered (result : ResultCode) (words : Words) : Prop := Answered .readRow p tag w result words s t
        let reads (set : CalSet) : Prop :=
          (∀ i : Fin 12, table = 0 → index = i.val → answered .ok ⟨w.w0, w.w1, num set.line[i].x, num set.line[i].y⟩)
          ∧ (∀ i : Fin 6, table = 1 → index = i.val → answered .ok ⟨w.w0, w.w1, num set.offset[i].x, num set.offset[i].y⟩)
          ∧ (∀ i : Fin 27, table = 2 → index = i.val → answered .ok ⟨w.w0, w.w1, num set.thr[i], 0⟩)
          ∧ (2 < table ∨ (table = 0 ∧ 12 ≤ index) ∨ (table = 1 ∧ 6 ≤ index) ∨ (table = 2 ∧ 27 ≤ index) →
              answered .badArgument zeroWords)
        (w.w2.getLsbD 0 = false → reads s.cal.active)
        ∧ (w.w2.getLsbD 0 = true → s.cal.claim = none → answered .noClaim zeroWords)
        ∧ ∀ c, s.cal.claim = some c → w.w2.getLsbD 0 = true →
            (c.holder ≠ p → answered .notHolder zeroWords) ∧ (c.holder = p → reads c.staging)

/-- A period boundary reloads the timer, closes the period's edge count and settles a pending commit before anything else (R99, R196,
R153). A staging set that passes becomes the active set, the origin LOADED, the count one more, at most 65535, with CAL_COMMITTED
(R154); AGED hold counters, wait timer, cool-off and attempt count come down to new rows, a running wait whose row is lowered
below the time already spent to its last period, and what an unchanged row governs stays (R16, R96, R156; log 23); a rejector turned off
makes the filtered level take the pin's, an edge counted by the new polarity (R43; log 11, and log 10 for the count kept). One that
fails leaves the active set and records the reason, with CAL_REJECTED (R155). The claim stays with its holder. The command is the timer's expiry
whatever the timer's count (the model's choice, log 27). -/
def Obligations.PeriodBoundarySettlesTheCommit : Prop :=
  ∀ (pin : Bool) (s : State), s.rstN = true → s.stage = .idle →
    ∃ t, exec (.periodBoundary pin) s = .next t
      ∧ t = { s with tmr := 80000, spdPin := pin, spd := t.spd, snapDone := .all false, stage := .src, cal := t.cal, src := t.src
                     seq := t.seq, ntc := t.ntc }
      ∧ let cleared : Spd := { s.spd with boundaryCount := s.spd.count, count := 0 }
        let goesOn : Prop := t.spd = cleared ∧ t.src = s.src ∧ t.seq = s.seq
        ((∀ c, s.cal.claim = some c → c.pending = false) → t.cal = s.cal ∧ goesOn ∧ Raised [] s t)
        ∧ ∀ c, s.cal.claim = some c → c.pending = true →
          let set := c.staging
          (set.validate ≠ .none →
            t.cal = { s.cal with claim := some { c with pending := false }, lastRejection := set.validate }
              ∧ goesOn ∧ Raised [.calRejected] s t)
          ∧ (set.validate = .none →
            t.cal = { s.cal with active := set, claim := some { c with pending := false }, origin := .loaded
                                 commitCount := min 65535 (s.cal.commitCount + 1) }
              ∧ Raised [.calCommitted] s t
              ∧ (∀ r, let c := s.src.get r
                  t.src.get r = { c with hold := if c.state = .aged then min c.hold set.holdPeriods else c.hold })
              ∧ let was := s.cal.active
                t.seq = { s.seq with
                  timer := t.seq.timer
                  coolOff := if set.coolOff = was.coolOff then s.seq.coolOff else min s.seq.coolOff set.coolOff
                  attempts := if set.retryLimit = was.retryLimit then s.seq.attempts
                    else min s.seq.attempts (set.retryLimit + 1) }
              ∧ (s.seq.timer = 0 ∨ s.seq.state ∈ [.off, .coupled, .unload] → t.seq.timer = s.seq.timer)
              ∧ (let lowered (old row : Nat) : Prop := 0 < s.seq.timer →
                  (row = old → t.seq.timer = s.seq.timer)
                  ∧ (row < old → row < s.seq.spent → t.seq.timer = 1)
                  ∧ (row < old → s.seq.spent ≤ row → t.seq.timer = min s.seq.timer row)
                  ∧ (old < row → t.seq.timer = min s.seq.timer row)
                (s.seq.state = .crankWait → lowered was.crankTimeout set.crankTimeout)
                ∧ (s.seq.state = .speedSync → lowered was.syncTimeout set.syncTimeout)
                ∧ (s.seq.state = .clutchWait ∨ s.seq.state = .clutchRelease → lowered was.clutchTimeout set.clutchTimeout)
                ∧ (s.seq.state = .offWait → lowered was.offTimeout set.offTimeout))
              ∧ let turnedOff : Prop := (s.cal.active.pulseOptions = 0 ∨ s.cal.active.pulseOptions = 1)
                  ∧ ¬ (set.pulseOptions = 0 ∨ set.pulseOptions = 1)
                let counted : Prop := if pin then set.pulseOptions = 1 ∨ set.pulseOptions = 3
                  else ¬ (set.pulseOptions = 1 ∨ set.pulseOptions = 3)
                (¬ turnedOff → t.spd = cleared)
                ∧ (turnedOff → pin = s.spd.filtered → t.spd = { cleared with candidate := 0 })
                ∧ (turnedOff → pin ≠ s.spd.filtered → counted →
                    t.spd = { cleared with filtered := pin, candidate := 0, count := 1 })
                ∧ (turnedOff → pin ≠ s.spd.filtered → ¬ counted → t.spd = { cleared with filtered := pin, candidate := 0 }))

/-- The validation's six tests in order, the first that fails naming the reason: table 0's speeds strictly increasing, then its
ranges; table 1's SoC strictly increasing, then its ranges; table 2's rows each in its range or list; the orderings (R153, R142,
R143). The built-in defaults pass. -/
def Obligations.ValidationNamesTheFirstFailure : Prop :=
  CalSet.defaults.validate = .none
  ∧ ∀ c : CalSet,
    let order0 : Prop := ∀ i j : Fin 12, i < j → c.line[i].x < c.line[j].x
    let range0 : Prop := ∀ i : Fin 12, Between 0 9000 c.line[i].x ∧ Between 0 1000 c.line[i].y
    let order1 : Prop := ∀ i j : Fin 6, i < j → c.offset[i].x < c.offset[j].x
    let range1 : Prop := ∀ i : Fin 6, Between 0 1000 c.offset[i].x ∧ Between (-200) 200 c.offset[i].y
    let t (i : Fin 27) : Int := c.thr[i]
    let range2 : Prop :=
      (∀ e ∈ ([(0, 0, 1000), (1, 0, 1000), (2, 0, 1000), (3, 0, 1000), (4, 0, 1000), (5, 1000, 9000), (6, 0, 2000), (7, 100, 1000),
          (8, 1, 500), (9, 0, 1000), (10, 1, 3000), (11, 200, 1500), (12, 700, 1000), (13, 1, 20), (14, 0, 3), (15, 20, 500),
          (16, 20, 500), (17, 20, 500), (18, 1, 50), (19, 10, 500), (20, 10, 1000), (21, 20, 1000), (25, 1, 1000),
          (26, 1, 100)] : List (Fin 27 × Int × Int)), Between e.2.1 e.2.2 (t e.1))
        ∧ t 22 ∈ [1, 2, 4, 8] ∧ t 23 ∈ [30, 60, 120] ∧ t 24 ∈ [0, 1, 2, 3]
    let orderings : Prop := t 0 < t 1 ∧ t 1 < t 4 ∧ t 1 < t 2 ∧ t 2 < t 3 ∧ t 3 ≤ t 4 ∧ t 9 < t 7
    (¬ order0 → c.validate = .orderT0)
    ∧ (order0 → ¬ range0 → c.validate = .rangeT0)
    ∧ (order0 → range0 → ¬ order1 → c.validate = .orderT1)
    ∧ (order0 → range0 → order1 → ¬ range1 → c.validate = .rangeT1)
    ∧ (order0 → range0 → order1 → range1 → ¬ range2 → c.validate = .rangeT2)
    ∧ (order0 → range0 → order1 → range1 → range2 → ¬ orderings → c.validate = .thresholds)
    ∧ (order0 → range0 → order1 → range1 → range2 → orderings → c.validate = .none)

/-- The active set changes at two points alone: at RST_N, and at a boundary that finds a pending commit whose staging set passes
validation, which it then equals (R144, R154). -/
def Obligations.ActiveSetChangesOnlyAtABoundary : Prop :=
  ∀ (c : Instr) (s t : State), exec c s = .next t → t.cal.active ≠ s.cal.active →
    (c = .rstNAsserted ∧ t.cal.active = .defaults)
    ∨ ∃ pin m, c = .periodBoundary pin ∧ s.stage = .idle ∧ s.cal.claim = some m ∧ m.pending = true
        ∧ m.staging.validate = .none ∧ t.cal.active = m.staging

/-! ### Notices -/

/-- Raising a kind adds it to the raw set and, if it was raw already, to the repeat set; the enable set and the other kinds stay
(R163); and a port's ATTN_N is asserted exactly while RST_N is high and a raw kind is enabled (R165). -/
def Obligations.RaisingANotice : Prop :=
  (∀ (k : NoticeKind) (n : Notices) (i : Nat), i < 16 →
    ((n.raise k).raw.getLsbD i = true ↔ n.raw.getLsbD i = true ∨ i = k.code)
    ∧ ((n.raise k).rep.getLsbD i = true ↔ n.rep.getLsbD i = true ∨ (i = k.code ∧ n.raw.getLsbD i = true))
    ∧ (n.raise k).enable = n.enable)
  ∧ ∀ (s : State) (p : PortId), s.attn p = true ↔
    s.rstN = true ∧ ∃ i, (s.ntc.get p).raw.getLsbD i = true ∧ (s.ntc.get p).enable.getLsbD i = true

/-- READ_NOTICES answers OK with the port's raw, repeat, pending and enable sets and changes none (R166). SET_NOTICE_ENABLE replaces the
port's enable set whole, leaves its raw and repeat sets and the other ports', and answers OK with the four sets as they then stand
(R168). -/
def Obligations.ReadNoticesAndSetEnable : Prop :=
  ∀ (p : PortId) (tag : Byte) (w : Words) (s : State), s.Live p → s.Enabled p →
    let n := s.ntc.get p
    (∃ t, exec (.readNotices p tag w) s = .next t ∧ t = { s with ports := t.ports }
      ∧ Answered .readNotices p tag w .ok ⟨n.raw, n.rep, n.raw &&& n.enable, n.enable⟩ s t)
    ∧ ∃ t, exec (.setNoticeEnable p tag w) s = .next t ∧ t = { s with ports := t.ports, ntc := t.ntc }
      ∧ Answered .setNoticeEnable p tag w .ok ⟨n.raw, n.rep, n.raw &&& w.w0, w.w0⟩ s t
      ∧ t.ntc.get p = { n with enable := w.w0 } ∧ ∀ q, q ≠ p → t.ntc.get q = s.ntc.get q

/-- CLEAR_NOTICES takes every kind of its mask out of the port's raw and repeat sets and no other, and answers OK with the raw and
repeat sets before, the pending set after and the enable set; no other port's sets change (R167). -/
def Obligations.ClearNotices : Prop :=
  ∀ (p : PortId) (tag : Byte) (w : Words) (s : State), s.Live p → s.Enabled p →
    ∃ t, exec (.clearNotices p tag w) s = .next t ∧ t = { s with ports := t.ports, ntc := t.ntc }
      ∧ let n := s.ntc.get p
        let m := t.ntc.get p
        Answered .clearNotices p tag w .ok ⟨n.raw, n.rep, m.raw &&& m.enable, n.enable⟩ s t ∧ m.enable = n.enable
          ∧ (∀ i, m.raw.getLsbD i = (n.raw.getLsbD i && !w.w0.getLsbD i))
          ∧ (∀ i, m.rep.getLsbD i = (n.rep.getLsbD i && !w.w0.getLsbD i))
          ∧ ∀ q, q ≠ p → t.ntc.get q = s.ntc.get q

/-! ### Invariants -/

/-- Every step keeps the mode and sequencer pairs of chapter 4.1, in the record, in MODE and SEQ and across each stage, with the commands
of R78; a stop kind and a stop destination in STOPPING and in no other mode (R51, Note 1); and the notes of R77 and R86 on SEQ's
counters (the time spent in a wait: log 23). -/
def Obligations.StepKeepsThePairs : Prop :=
  ∀ s t : State, s.Paired → s.SeqNotes → step s = .next t → t.Paired ∧ t.SeqNotes

/-- Every step keeps the notes of R1 and the rules R10 and R24 on the four source records. -/
def Obligations.StepKeepsTheSourceNotes : Prop := ∀ s t : State, s.SourcesOk → step s = .next t → t.SourcesOk

/-- Every step keeps each repeat set within its raw set, a disabled port's sets at their reset values (R162), and the claim with an
enabled port; in reset, the sets at their reset values and the claim free (R141, R173); and each PIU's buffer and transmit position
within 88 bits (R174). -/
def Obligations.StepKeepsThePorts : Prop := ∀ s t : State, s.PortsOk → step s = .next t → t.PortsOk

/-- Every step keeps these in the ranges that the spec gives them: the record's torques, powers and n_sel with their bounds and their
exact sum, in REC, in SPLIT's hand-over and in every page snapshot; the held values, the snapshot, the envelopes and the speeds; an
active set that passes validation; F; the speed unit's counts, ring and runs, each run 0 in the other check state; the dwell runs;
SEQ's wait timer, sync run and cool-off counter; the shortfall run, the commit count and the period timer (R24, R37, R41, R51, R77,
R102, R104, R120, R122, R128, R136, R141, R154, R196). -/
def Obligations.StepKeepsTheRanges : Prop :=
  ∀ s t : State, s.Bounded → s.CountersInRange → step s = .next t → t.Bounded ∧ t.CountersInRange

/-- Every invariant holds in `State.reset`. Its strap and pin levels are the model's choice (log 1). -/
def Obligations.ResetIsSafe : Prop := State.reset.Safe
end

