-- ==== Sys2Proof/Laws/State.lean ====
section
/-! SUPPORT. One lemma for each field of `State` and each operation on the state: what the update leaves as it was. No later proof
unfolds a record update. -/

namespace Sys2Proof.Machine

/-! ### raiseOn -/

@[simp] theorem State.raiseOn_rstN (p : PortId) (k : NoticeKind) (s : State) : (s.raiseOn p k).rstN = s.rstN := rfl
@[simp] theorem State.raiseOn_spdPin (p : PortId) (k : NoticeKind) (s : State) : (s.raiseOn p k).spdPin = s.spdPin := rfl
@[simp] theorem State.raiseOn_epochPin (p : PortId) (k : NoticeKind) (s : State) : (s.raiseOn p k).epochPin = s.epochPin := rfl
@[simp] theorem State.raiseOn_epochTimer (p : PortId) (k : NoticeKind) (s : State) : (s.raiseOn p k).epochTimer = s.epochTimer := rfl
@[simp] theorem State.raiseOn_tmr (p : PortId) (k : NoticeKind) (s : State) : (s.raiseOn p k).tmr = s.tmr := rfl
@[simp] theorem State.raiseOn_sampleDiv (p : PortId) (k : NoticeKind) (s : State) : (s.raiseOn p k).sampleDiv = s.sampleDiv := rfl
@[simp] theorem State.raiseOn_ports (p : PortId) (k : NoticeKind) (s : State) : (s.raiseOn p k).ports = s.ports := rfl
@[simp] theorem State.raiseOn_src (p : PortId) (k : NoticeKind) (s : State) : (s.raiseOn p k).src = s.src := rfl
@[simp] theorem State.raiseOn_heldVals (p : PortId) (k : NoticeKind) (s : State) : (s.raiseOn p k).heldVals = s.heldVals := rfl
@[simp] theorem State.raiseOn_snap (p : PortId) (k : NoticeKind) (s : State) : (s.raiseOn p k).snap = s.snap := rfl
@[simp] theorem State.raiseOn_snapDone (p : PortId) (k : NoticeKind) (s : State) : (s.raiseOn p k).snapDone = s.snapDone := rfl
@[simp] theorem State.raiseOn_env (p : PortId) (k : NoticeKind) (s : State) : (s.raiseOn p k).env = s.env := rfl
@[simp] theorem State.raiseOn_envCopy (p : PortId) (k : NoticeKind) (s : State) : (s.raiseOn p k).envCopy = s.envCopy := rfl
@[simp] theorem State.raiseOn_spd (p : PortId) (k : NoticeKind) (s : State) : (s.raiseOn p k).spd = s.spd := rfl
@[simp] theorem State.raiseOn_modeCtl (p : PortId) (k : NoticeKind) (s : State) : (s.raiseOn p k).modeCtl = s.modeCtl := rfl
@[simp] theorem State.raiseOn_request (p : PortId) (k : NoticeKind) (s : State) : (s.raiseOn p k).request = s.request := rfl
@[simp] theorem State.raiseOn_seq (p : PortId) (k : NoticeKind) (s : State) : (s.raiseOn p k).seq = s.seq := rfl
@[simp] theorem State.raiseOn_split (p : PortId) (k : NoticeKind) (s : State) : (s.raiseOn p k).split = s.split := rfl
@[simp] theorem State.raiseOn_splitOut (p : PortId) (k : NoticeKind) (s : State) : (s.raiseOn p k).splitOut = s.splitOut := rfl
@[simp] theorem State.raiseOn_stage (p : PortId) (k : NoticeKind) (s : State) : (s.raiseOn p k).stage = s.stage := rfl
@[simp] theorem State.raiseOn_record (p : PortId) (k : NoticeKind) (s : State) : (s.raiseOn p k).record = s.record := rfl
@[simp] theorem State.raiseOn_cal (p : PortId) (k : NoticeKind) (s : State) : (s.raiseOn p k).cal = s.cal := rfl
@[simp] theorem State.raiseOn_pending (p : PortId) (k : NoticeKind) (s : State) : (s.raiseOn p k).pending = s.pending := rfl

/-! ### broadcast -/

@[simp] theorem State.broadcast_rstN (k : NoticeKind) (s : State) : (s.broadcast k).rstN = s.rstN := rfl
@[simp] theorem State.broadcast_spdPin (k : NoticeKind) (s : State) : (s.broadcast k).spdPin = s.spdPin := rfl
@[simp] theorem State.broadcast_epochPin (k : NoticeKind) (s : State) : (s.broadcast k).epochPin = s.epochPin := rfl
@[simp] theorem State.broadcast_epochTimer (k : NoticeKind) (s : State) : (s.broadcast k).epochTimer = s.epochTimer := rfl
@[simp] theorem State.broadcast_tmr (k : NoticeKind) (s : State) : (s.broadcast k).tmr = s.tmr := rfl
@[simp] theorem State.broadcast_sampleDiv (k : NoticeKind) (s : State) : (s.broadcast k).sampleDiv = s.sampleDiv := rfl
@[simp] theorem State.broadcast_ports (k : NoticeKind) (s : State) : (s.broadcast k).ports = s.ports := rfl
@[simp] theorem State.broadcast_src (k : NoticeKind) (s : State) : (s.broadcast k).src = s.src := rfl
@[simp] theorem State.broadcast_heldVals (k : NoticeKind) (s : State) : (s.broadcast k).heldVals = s.heldVals := rfl
@[simp] theorem State.broadcast_snap (k : NoticeKind) (s : State) : (s.broadcast k).snap = s.snap := rfl
@[simp] theorem State.broadcast_snapDone (k : NoticeKind) (s : State) : (s.broadcast k).snapDone = s.snapDone := rfl
@[simp] theorem State.broadcast_env (k : NoticeKind) (s : State) : (s.broadcast k).env = s.env := rfl
@[simp] theorem State.broadcast_envCopy (k : NoticeKind) (s : State) : (s.broadcast k).envCopy = s.envCopy := rfl
@[simp] theorem State.broadcast_spd (k : NoticeKind) (s : State) : (s.broadcast k).spd = s.spd := rfl
@[simp] theorem State.broadcast_modeCtl (k : NoticeKind) (s : State) : (s.broadcast k).modeCtl = s.modeCtl := rfl
@[simp] theorem State.broadcast_request (k : NoticeKind) (s : State) : (s.broadcast k).request = s.request := rfl
@[simp] theorem State.broadcast_seq (k : NoticeKind) (s : State) : (s.broadcast k).seq = s.seq := rfl
@[simp] theorem State.broadcast_split (k : NoticeKind) (s : State) : (s.broadcast k).split = s.split := rfl
@[simp] theorem State.broadcast_splitOut (k : NoticeKind) (s : State) : (s.broadcast k).splitOut = s.splitOut := rfl
@[simp] theorem State.broadcast_stage (k : NoticeKind) (s : State) : (s.broadcast k).stage = s.stage := rfl
@[simp] theorem State.broadcast_record (k : NoticeKind) (s : State) : (s.broadcast k).record = s.record := rfl
@[simp] theorem State.broadcast_cal (k : NoticeKind) (s : State) : (s.broadcast k).cal = s.cal := rfl
@[simp] theorem State.broadcast_pending (k : NoticeKind) (s : State) : (s.broadcast k).pending = s.pending := rfl

/-! ### broadcastIf -/

@[simp] theorem State.broadcastIf_rstN (b : Bool) (k : NoticeKind) (s : State) : (s.broadcastIf b k).rstN = s.rstN := by cases b <;> rfl
@[simp] theorem State.broadcastIf_spdPin (b : Bool) (k : NoticeKind) (s : State) : (s.broadcastIf b k).spdPin = s.spdPin := by cases b <;> rfl
@[simp] theorem State.broadcastIf_epochPin (b : Bool) (k : NoticeKind) (s : State) : (s.broadcastIf b k).epochPin = s.epochPin := by cases b <;> rfl
@[simp] theorem State.broadcastIf_epochTimer (b : Bool) (k : NoticeKind) (s : State) : (s.broadcastIf b k).epochTimer = s.epochTimer := by cases b <;> rfl
@[simp] theorem State.broadcastIf_tmr (b : Bool) (k : NoticeKind) (s : State) : (s.broadcastIf b k).tmr = s.tmr := by cases b <;> rfl
@[simp] theorem State.broadcastIf_sampleDiv (b : Bool) (k : NoticeKind) (s : State) : (s.broadcastIf b k).sampleDiv = s.sampleDiv := by cases b <;> rfl
@[simp] theorem State.broadcastIf_ports (b : Bool) (k : NoticeKind) (s : State) : (s.broadcastIf b k).ports = s.ports := by cases b <;> rfl
@[simp] theorem State.broadcastIf_src (b : Bool) (k : NoticeKind) (s : State) : (s.broadcastIf b k).src = s.src := by cases b <;> rfl
@[simp] theorem State.broadcastIf_heldVals (b : Bool) (k : NoticeKind) (s : State) : (s.broadcastIf b k).heldVals = s.heldVals := by cases b <;> rfl
@[simp] theorem State.broadcastIf_snap (b : Bool) (k : NoticeKind) (s : State) : (s.broadcastIf b k).snap = s.snap := by cases b <;> rfl
@[simp] theorem State.broadcastIf_snapDone (b : Bool) (k : NoticeKind) (s : State) : (s.broadcastIf b k).snapDone = s.snapDone := by cases b <;> rfl
@[simp] theorem State.broadcastIf_env (b : Bool) (k : NoticeKind) (s : State) : (s.broadcastIf b k).env = s.env := by cases b <;> rfl
@[simp] theorem State.broadcastIf_envCopy (b : Bool) (k : NoticeKind) (s : State) : (s.broadcastIf b k).envCopy = s.envCopy := by cases b <;> rfl
@[simp] theorem State.broadcastIf_spd (b : Bool) (k : NoticeKind) (s : State) : (s.broadcastIf b k).spd = s.spd := by cases b <;> rfl
@[simp] theorem State.broadcastIf_modeCtl (b : Bool) (k : NoticeKind) (s : State) : (s.broadcastIf b k).modeCtl = s.modeCtl := by cases b <;> rfl
@[simp] theorem State.broadcastIf_request (b : Bool) (k : NoticeKind) (s : State) : (s.broadcastIf b k).request = s.request := by cases b <;> rfl
@[simp] theorem State.broadcastIf_seq (b : Bool) (k : NoticeKind) (s : State) : (s.broadcastIf b k).seq = s.seq := by cases b <;> rfl
@[simp] theorem State.broadcastIf_split (b : Bool) (k : NoticeKind) (s : State) : (s.broadcastIf b k).split = s.split := by cases b <;> rfl
@[simp] theorem State.broadcastIf_splitOut (b : Bool) (k : NoticeKind) (s : State) : (s.broadcastIf b k).splitOut = s.splitOut := by cases b <;> rfl
@[simp] theorem State.broadcastIf_stage (b : Bool) (k : NoticeKind) (s : State) : (s.broadcastIf b k).stage = s.stage := by cases b <;> rfl
@[simp] theorem State.broadcastIf_record (b : Bool) (k : NoticeKind) (s : State) : (s.broadcastIf b k).record = s.record := by cases b <;> rfl
@[simp] theorem State.broadcastIf_cal (b : Bool) (k : NoticeKind) (s : State) : (s.broadcastIf b k).cal = s.cal := by cases b <;> rfl
@[simp] theorem State.broadcastIf_pending (b : Bool) (k : NoticeKind) (s : State) : (s.broadcastIf b k).pending = s.pending := by cases b <;> rfl

/-! ### setPort -/

@[simp] theorem State.setPort_rstN (p : PortId) (q : Port) (s : State) : (s.setPort p q).rstN = s.rstN := rfl
@[simp] theorem State.setPort_spdPin (p : PortId) (q : Port) (s : State) : (s.setPort p q).spdPin = s.spdPin := rfl
@[simp] theorem State.setPort_epochPin (p : PortId) (q : Port) (s : State) : (s.setPort p q).epochPin = s.epochPin := rfl
@[simp] theorem State.setPort_epochTimer (p : PortId) (q : Port) (s : State) : (s.setPort p q).epochTimer = s.epochTimer := rfl
@[simp] theorem State.setPort_tmr (p : PortId) (q : Port) (s : State) : (s.setPort p q).tmr = s.tmr := rfl
@[simp] theorem State.setPort_sampleDiv (p : PortId) (q : Port) (s : State) : (s.setPort p q).sampleDiv = s.sampleDiv := rfl
@[simp] theorem State.setPort_src (p : PortId) (q : Port) (s : State) : (s.setPort p q).src = s.src := rfl
@[simp] theorem State.setPort_heldVals (p : PortId) (q : Port) (s : State) : (s.setPort p q).heldVals = s.heldVals := rfl
@[simp] theorem State.setPort_snap (p : PortId) (q : Port) (s : State) : (s.setPort p q).snap = s.snap := rfl
@[simp] theorem State.setPort_snapDone (p : PortId) (q : Port) (s : State) : (s.setPort p q).snapDone = s.snapDone := rfl
@[simp] theorem State.setPort_env (p : PortId) (q : Port) (s : State) : (s.setPort p q).env = s.env := rfl
@[simp] theorem State.setPort_envCopy (p : PortId) (q : Port) (s : State) : (s.setPort p q).envCopy = s.envCopy := rfl
@[simp] theorem State.setPort_spd (p : PortId) (q : Port) (s : State) : (s.setPort p q).spd = s.spd := rfl
@[simp] theorem State.setPort_modeCtl (p : PortId) (q : Port) (s : State) : (s.setPort p q).modeCtl = s.modeCtl := rfl
@[simp] theorem State.setPort_request (p : PortId) (q : Port) (s : State) : (s.setPort p q).request = s.request := rfl
@[simp] theorem State.setPort_seq (p : PortId) (q : Port) (s : State) : (s.setPort p q).seq = s.seq := rfl
@[simp] theorem State.setPort_split (p : PortId) (q : Port) (s : State) : (s.setPort p q).split = s.split := rfl
@[simp] theorem State.setPort_splitOut (p : PortId) (q : Port) (s : State) : (s.setPort p q).splitOut = s.splitOut := rfl
@[simp] theorem State.setPort_stage (p : PortId) (q : Port) (s : State) : (s.setPort p q).stage = s.stage := rfl
@[simp] theorem State.setPort_record (p : PortId) (q : Port) (s : State) : (s.setPort p q).record = s.record := rfl
@[simp] theorem State.setPort_cal (p : PortId) (q : Port) (s : State) : (s.setPort p q).cal = s.cal := rfl
@[simp] theorem State.setPort_ntc (p : PortId) (q : Port) (s : State) : (s.setPort p q).ntc = s.ntc := rfl
@[simp] theorem State.setPort_pending (p : PortId) (q : Port) (s : State) : (s.setPort p q).pending = s.pending := rfl

/-! ### answer -/

@[simp] theorem State.answer_rstN (p : PortId) (r : Response) (s : State) : (s.answer p r).rstN = s.rstN := rfl
@[simp] theorem State.answer_spdPin (p : PortId) (r : Response) (s : State) : (s.answer p r).spdPin = s.spdPin := rfl
@[simp] theorem State.answer_epochPin (p : PortId) (r : Response) (s : State) : (s.answer p r).epochPin = s.epochPin := rfl
@[simp] theorem State.answer_epochTimer (p : PortId) (r : Response) (s : State) : (s.answer p r).epochTimer = s.epochTimer := rfl
@[simp] theorem State.answer_tmr (p : PortId) (r : Response) (s : State) : (s.answer p r).tmr = s.tmr := rfl
@[simp] theorem State.answer_sampleDiv (p : PortId) (r : Response) (s : State) : (s.answer p r).sampleDiv = s.sampleDiv := rfl
@[simp] theorem State.answer_src (p : PortId) (r : Response) (s : State) : (s.answer p r).src = s.src := rfl
@[simp] theorem State.answer_heldVals (p : PortId) (r : Response) (s : State) : (s.answer p r).heldVals = s.heldVals := rfl
@[simp] theorem State.answer_snap (p : PortId) (r : Response) (s : State) : (s.answer p r).snap = s.snap := rfl
@[simp] theorem State.answer_snapDone (p : PortId) (r : Response) (s : State) : (s.answer p r).snapDone = s.snapDone := rfl
@[simp] theorem State.answer_env (p : PortId) (r : Response) (s : State) : (s.answer p r).env = s.env := rfl
@[simp] theorem State.answer_envCopy (p : PortId) (r : Response) (s : State) : (s.answer p r).envCopy = s.envCopy := rfl
@[simp] theorem State.answer_spd (p : PortId) (r : Response) (s : State) : (s.answer p r).spd = s.spd := rfl
@[simp] theorem State.answer_modeCtl (p : PortId) (r : Response) (s : State) : (s.answer p r).modeCtl = s.modeCtl := rfl
@[simp] theorem State.answer_request (p : PortId) (r : Response) (s : State) : (s.answer p r).request = s.request := rfl
@[simp] theorem State.answer_seq (p : PortId) (r : Response) (s : State) : (s.answer p r).seq = s.seq := rfl
@[simp] theorem State.answer_split (p : PortId) (r : Response) (s : State) : (s.answer p r).split = s.split := rfl
@[simp] theorem State.answer_splitOut (p : PortId) (r : Response) (s : State) : (s.answer p r).splitOut = s.splitOut := rfl
@[simp] theorem State.answer_stage (p : PortId) (r : Response) (s : State) : (s.answer p r).stage = s.stage := rfl
@[simp] theorem State.answer_record (p : PortId) (r : Response) (s : State) : (s.answer p r).record = s.record := rfl
@[simp] theorem State.answer_cal (p : PortId) (r : Response) (s : State) : (s.answer p r).cal = s.cal := rfl
@[simp] theorem State.answer_ntc (p : PortId) (r : Response) (s : State) : (s.answer p r).ntc = s.ntc := rfl
@[simp] theorem State.answer_pending (p : PortId) (r : Response) (s : State) : (s.answer p r).pending = s.pending := rfl

/-! ### frameEnds -/

@[simp] theorem State.frameEnds_rstN (p : PortId) (l : List Bool) (s : State) : (s.frameEnds p l).rstN = s.rstN := rfl
@[simp] theorem State.frameEnds_spdPin (p : PortId) (l : List Bool) (s : State) : (s.frameEnds p l).spdPin = s.spdPin := rfl
@[simp] theorem State.frameEnds_epochPin (p : PortId) (l : List Bool) (s : State) : (s.frameEnds p l).epochPin = s.epochPin := rfl
@[simp] theorem State.frameEnds_epochTimer (p : PortId) (l : List Bool) (s : State) : (s.frameEnds p l).epochTimer = s.epochTimer := rfl
@[simp] theorem State.frameEnds_tmr (p : PortId) (l : List Bool) (s : State) : (s.frameEnds p l).tmr = s.tmr := rfl
@[simp] theorem State.frameEnds_sampleDiv (p : PortId) (l : List Bool) (s : State) : (s.frameEnds p l).sampleDiv = s.sampleDiv := rfl
@[simp] theorem State.frameEnds_src (p : PortId) (l : List Bool) (s : State) : (s.frameEnds p l).src = s.src := rfl
@[simp] theorem State.frameEnds_heldVals (p : PortId) (l : List Bool) (s : State) : (s.frameEnds p l).heldVals = s.heldVals := rfl
@[simp] theorem State.frameEnds_snap (p : PortId) (l : List Bool) (s : State) : (s.frameEnds p l).snap = s.snap := rfl
@[simp] theorem State.frameEnds_snapDone (p : PortId) (l : List Bool) (s : State) : (s.frameEnds p l).snapDone = s.snapDone := rfl
@[simp] theorem State.frameEnds_env (p : PortId) (l : List Bool) (s : State) : (s.frameEnds p l).env = s.env := rfl
@[simp] theorem State.frameEnds_envCopy (p : PortId) (l : List Bool) (s : State) : (s.frameEnds p l).envCopy = s.envCopy := rfl
@[simp] theorem State.frameEnds_spd (p : PortId) (l : List Bool) (s : State) : (s.frameEnds p l).spd = s.spd := rfl
@[simp] theorem State.frameEnds_modeCtl (p : PortId) (l : List Bool) (s : State) : (s.frameEnds p l).modeCtl = s.modeCtl := rfl
@[simp] theorem State.frameEnds_request (p : PortId) (l : List Bool) (s : State) : (s.frameEnds p l).request = s.request := rfl
@[simp] theorem State.frameEnds_seq (p : PortId) (l : List Bool) (s : State) : (s.frameEnds p l).seq = s.seq := rfl
@[simp] theorem State.frameEnds_split (p : PortId) (l : List Bool) (s : State) : (s.frameEnds p l).split = s.split := rfl
@[simp] theorem State.frameEnds_splitOut (p : PortId) (l : List Bool) (s : State) : (s.frameEnds p l).splitOut = s.splitOut := rfl
@[simp] theorem State.frameEnds_stage (p : PortId) (l : List Bool) (s : State) : (s.frameEnds p l).stage = s.stage := rfl
@[simp] theorem State.frameEnds_record (p : PortId) (l : List Bool) (s : State) : (s.frameEnds p l).record = s.record := rfl
@[simp] theorem State.frameEnds_cal (p : PortId) (l : List Bool) (s : State) : (s.frameEnds p l).cal = s.cal := rfl
@[simp] theorem State.frameEnds_ntc (p : PortId) (l : List Bool) (s : State) : (s.frameEnds p l).ntc = s.ntc := rfl
@[simp] theorem State.frameEnds_pending (p : PortId) (l : List Bool) (s : State) : (s.frameEnds p l).pending = s.pending := rfl

/-! ### withClaim -/

@[simp] theorem State.withClaim_rstN (c : Option Claim) (s : State) : (s.withClaim c).rstN = s.rstN := rfl
@[simp] theorem State.withClaim_spdPin (c : Option Claim) (s : State) : (s.withClaim c).spdPin = s.spdPin := rfl
@[simp] theorem State.withClaim_epochPin (c : Option Claim) (s : State) : (s.withClaim c).epochPin = s.epochPin := rfl
@[simp] theorem State.withClaim_epochTimer (c : Option Claim) (s : State) : (s.withClaim c).epochTimer = s.epochTimer := rfl
@[simp] theorem State.withClaim_tmr (c : Option Claim) (s : State) : (s.withClaim c).tmr = s.tmr := rfl
@[simp] theorem State.withClaim_sampleDiv (c : Option Claim) (s : State) : (s.withClaim c).sampleDiv = s.sampleDiv := rfl
@[simp] theorem State.withClaim_ports (c : Option Claim) (s : State) : (s.withClaim c).ports = s.ports := rfl
@[simp] theorem State.withClaim_src (c : Option Claim) (s : State) : (s.withClaim c).src = s.src := rfl
@[simp] theorem State.withClaim_heldVals (c : Option Claim) (s : State) : (s.withClaim c).heldVals = s.heldVals := rfl
@[simp] theorem State.withClaim_snap (c : Option Claim) (s : State) : (s.withClaim c).snap = s.snap := rfl
@[simp] theorem State.withClaim_snapDone (c : Option Claim) (s : State) : (s.withClaim c).snapDone = s.snapDone := rfl
@[simp] theorem State.withClaim_env (c : Option Claim) (s : State) : (s.withClaim c).env = s.env := rfl
@[simp] theorem State.withClaim_envCopy (c : Option Claim) (s : State) : (s.withClaim c).envCopy = s.envCopy := rfl
@[simp] theorem State.withClaim_spd (c : Option Claim) (s : State) : (s.withClaim c).spd = s.spd := rfl
@[simp] theorem State.withClaim_modeCtl (c : Option Claim) (s : State) : (s.withClaim c).modeCtl = s.modeCtl := rfl
@[simp] theorem State.withClaim_request (c : Option Claim) (s : State) : (s.withClaim c).request = s.request := rfl
@[simp] theorem State.withClaim_seq (c : Option Claim) (s : State) : (s.withClaim c).seq = s.seq := rfl
@[simp] theorem State.withClaim_split (c : Option Claim) (s : State) : (s.withClaim c).split = s.split := rfl
@[simp] theorem State.withClaim_splitOut (c : Option Claim) (s : State) : (s.withClaim c).splitOut = s.splitOut := rfl
@[simp] theorem State.withClaim_stage (c : Option Claim) (s : State) : (s.withClaim c).stage = s.stage := rfl
@[simp] theorem State.withClaim_record (c : Option Claim) (s : State) : (s.withClaim c).record = s.record := rfl
@[simp] theorem State.withClaim_ntc (c : Option Claim) (s : State) : (s.withClaim c).ntc = s.ntc := rfl
@[simp] theorem State.withClaim_pending (c : Option Claim) (s : State) : (s.withClaim c).pending = s.pending := rfl

/-! ### endPulse -/

@[simp] theorem State.endPulse_rstN (s : State) : (s.endPulse).rstN = s.rstN := rfl
@[simp] theorem State.endPulse_spdPin (s : State) : (s.endPulse).spdPin = s.spdPin := rfl
@[simp] theorem State.endPulse_tmr (s : State) : (s.endPulse).tmr = s.tmr := rfl
@[simp] theorem State.endPulse_sampleDiv (s : State) : (s.endPulse).sampleDiv = s.sampleDiv := rfl
@[simp] theorem State.endPulse_ports (s : State) : (s.endPulse).ports = s.ports := rfl
@[simp] theorem State.endPulse_src (s : State) : (s.endPulse).src = s.src := rfl
@[simp] theorem State.endPulse_heldVals (s : State) : (s.endPulse).heldVals = s.heldVals := rfl
@[simp] theorem State.endPulse_snap (s : State) : (s.endPulse).snap = s.snap := rfl
@[simp] theorem State.endPulse_snapDone (s : State) : (s.endPulse).snapDone = s.snapDone := rfl
@[simp] theorem State.endPulse_env (s : State) : (s.endPulse).env = s.env := rfl
@[simp] theorem State.endPulse_envCopy (s : State) : (s.endPulse).envCopy = s.envCopy := rfl
@[simp] theorem State.endPulse_spd (s : State) : (s.endPulse).spd = s.spd := rfl
@[simp] theorem State.endPulse_modeCtl (s : State) : (s.endPulse).modeCtl = s.modeCtl := rfl
@[simp] theorem State.endPulse_request (s : State) : (s.endPulse).request = s.request := rfl
@[simp] theorem State.endPulse_seq (s : State) : (s.endPulse).seq = s.seq := rfl
@[simp] theorem State.endPulse_split (s : State) : (s.endPulse).split = s.split := rfl
@[simp] theorem State.endPulse_splitOut (s : State) : (s.endPulse).splitOut = s.splitOut := rfl
@[simp] theorem State.endPulse_stage (s : State) : (s.endPulse).stage = s.stage := rfl
@[simp] theorem State.endPulse_record (s : State) : (s.endPulse).record = s.record := rfl
@[simp] theorem State.endPulse_cal (s : State) : (s.endPulse).cal = s.cal := rfl
@[simp] theorem State.endPulse_ntc (s : State) : (s.endPulse).ntc = s.ntc := rfl
@[simp] theorem State.endPulse_pending (s : State) : (s.endPulse).pending = s.pending := rfl

/-! ### loseClaim -/

@[simp] theorem State.loseClaim_rstN (c : Claim) (s : State) : (s.loseClaim c).rstN = s.rstN := by simp [State.loseClaim]
@[simp] theorem State.loseClaim_spdPin (c : Claim) (s : State) : (s.loseClaim c).spdPin = s.spdPin := by simp [State.loseClaim]
@[simp] theorem State.loseClaim_epochPin (c : Claim) (s : State) : (s.loseClaim c).epochPin = s.epochPin := by simp [State.loseClaim]
@[simp] theorem State.loseClaim_epochTimer (c : Claim) (s : State) : (s.loseClaim c).epochTimer = s.epochTimer := by simp [State.loseClaim]
@[simp] theorem State.loseClaim_tmr (c : Claim) (s : State) : (s.loseClaim c).tmr = s.tmr := by simp [State.loseClaim]
@[simp] theorem State.loseClaim_sampleDiv (c : Claim) (s : State) : (s.loseClaim c).sampleDiv = s.sampleDiv := by simp [State.loseClaim]
@[simp] theorem State.loseClaim_ports (c : Claim) (s : State) : (s.loseClaim c).ports = s.ports := by simp [State.loseClaim]
@[simp] theorem State.loseClaim_src (c : Claim) (s : State) : (s.loseClaim c).src = s.src := by simp [State.loseClaim]
@[simp] theorem State.loseClaim_heldVals (c : Claim) (s : State) : (s.loseClaim c).heldVals = s.heldVals := by simp [State.loseClaim]
@[simp] theorem State.loseClaim_snap (c : Claim) (s : State) : (s.loseClaim c).snap = s.snap := by simp [State.loseClaim]
@[simp] theorem State.loseClaim_snapDone (c : Claim) (s : State) : (s.loseClaim c).snapDone = s.snapDone := by simp [State.loseClaim]
@[simp] theorem State.loseClaim_env (c : Claim) (s : State) : (s.loseClaim c).env = s.env := by simp [State.loseClaim]
@[simp] theorem State.loseClaim_envCopy (c : Claim) (s : State) : (s.loseClaim c).envCopy = s.envCopy := by simp [State.loseClaim]
@[simp] theorem State.loseClaim_spd (c : Claim) (s : State) : (s.loseClaim c).spd = s.spd := by simp [State.loseClaim]
@[simp] theorem State.loseClaim_modeCtl (c : Claim) (s : State) : (s.loseClaim c).modeCtl = s.modeCtl := by simp [State.loseClaim]
@[simp] theorem State.loseClaim_request (c : Claim) (s : State) : (s.loseClaim c).request = s.request := by simp [State.loseClaim]
@[simp] theorem State.loseClaim_seq (c : Claim) (s : State) : (s.loseClaim c).seq = s.seq := by simp [State.loseClaim]
@[simp] theorem State.loseClaim_split (c : Claim) (s : State) : (s.loseClaim c).split = s.split := by simp [State.loseClaim]
@[simp] theorem State.loseClaim_splitOut (c : Claim) (s : State) : (s.loseClaim c).splitOut = s.splitOut := by simp [State.loseClaim]
@[simp] theorem State.loseClaim_stage (c : Claim) (s : State) : (s.loseClaim c).stage = s.stage := by simp [State.loseClaim]
@[simp] theorem State.loseClaim_record (c : Claim) (s : State) : (s.loseClaim c).record = s.record := by simp [State.loseClaim]
@[simp] theorem State.loseClaim_pending (c : Claim) (s : State) : (s.loseClaim c).pending = s.pending := by simp [State.loseClaim]

/-! ### lapseSignal -/

@[simp] theorem State.lapseSignal_rstN (r : Role) (s : State) : (s.lapseSignal r).rstN = s.rstN := by unfold State.lapseSignal; split <;> (try split) <;> simp
@[simp] theorem State.lapseSignal_spdPin (r : Role) (s : State) : (s.lapseSignal r).spdPin = s.spdPin := by unfold State.lapseSignal; split <;> (try split) <;> simp
@[simp] theorem State.lapseSignal_epochPin (r : Role) (s : State) : (s.lapseSignal r).epochPin = s.epochPin := by unfold State.lapseSignal; split <;> (try split) <;> simp
@[simp] theorem State.lapseSignal_epochTimer (r : Role) (s : State) : (s.lapseSignal r).epochTimer = s.epochTimer := by unfold State.lapseSignal; split <;> (try split) <;> simp
@[simp] theorem State.lapseSignal_tmr (r : Role) (s : State) : (s.lapseSignal r).tmr = s.tmr := by unfold State.lapseSignal; split <;> (try split) <;> simp
@[simp] theorem State.lapseSignal_sampleDiv (r : Role) (s : State) : (s.lapseSignal r).sampleDiv = s.sampleDiv := by unfold State.lapseSignal; split <;> (try split) <;> simp
@[simp] theorem State.lapseSignal_ports (r : Role) (s : State) : (s.lapseSignal r).ports = s.ports := by unfold State.lapseSignal; split <;> (try split) <;> simp
@[simp] theorem State.lapseSignal_src (r : Role) (s : State) : (s.lapseSignal r).src = s.src := by unfold State.lapseSignal; split <;> (try split) <;> simp
@[simp] theorem State.lapseSignal_heldVals (r : Role) (s : State) : (s.lapseSignal r).heldVals = s.heldVals := by unfold State.lapseSignal; split <;> (try split) <;> simp
@[simp] theorem State.lapseSignal_snap (r : Role) (s : State) : (s.lapseSignal r).snap = s.snap := by unfold State.lapseSignal; split <;> (try split) <;> simp
@[simp] theorem State.lapseSignal_snapDone (r : Role) (s : State) : (s.lapseSignal r).snapDone = s.snapDone := by unfold State.lapseSignal; split <;> (try split) <;> simp
@[simp] theorem State.lapseSignal_env (r : Role) (s : State) : (s.lapseSignal r).env = s.env := by unfold State.lapseSignal; split <;> (try split) <;> simp
@[simp] theorem State.lapseSignal_envCopy (r : Role) (s : State) : (s.lapseSignal r).envCopy = s.envCopy := by unfold State.lapseSignal; split <;> (try split) <;> simp
@[simp] theorem State.lapseSignal_spd (r : Role) (s : State) : (s.lapseSignal r).spd = s.spd := by unfold State.lapseSignal; split <;> (try split) <;> simp
@[simp] theorem State.lapseSignal_modeCtl (r : Role) (s : State) : (s.lapseSignal r).modeCtl = s.modeCtl := by unfold State.lapseSignal; split <;> (try split) <;> simp
@[simp] theorem State.lapseSignal_request (r : Role) (s : State) : (s.lapseSignal r).request = s.request := by unfold State.lapseSignal; split <;> (try split) <;> simp
@[simp] theorem State.lapseSignal_seq (r : Role) (s : State) : (s.lapseSignal r).seq = s.seq := by unfold State.lapseSignal; split <;> (try split) <;> simp
@[simp] theorem State.lapseSignal_split (r : Role) (s : State) : (s.lapseSignal r).split = s.split := by unfold State.lapseSignal; split <;> (try split) <;> simp
@[simp] theorem State.lapseSignal_splitOut (r : Role) (s : State) : (s.lapseSignal r).splitOut = s.splitOut := by unfold State.lapseSignal; split <;> (try split) <;> simp
@[simp] theorem State.lapseSignal_stage (r : Role) (s : State) : (s.lapseSignal r).stage = s.stage := by unfold State.lapseSignal; split <;> (try split) <;> simp
@[simp] theorem State.lapseSignal_record (r : Role) (s : State) : (s.lapseSignal r).record = s.record := by unfold State.lapseSignal; split <;> (try split) <;> simp
@[simp] theorem State.lapseSignal_pending (r : Role) (s : State) : (s.lapseSignal r).pending = s.pending := by unfold State.lapseSignal; split <;> (try split) <;> simp

/-! ### boundaryUpdate -/

@[simp] theorem State.boundaryUpdate_rstN (r : Role) (s : State) : (s.boundaryUpdate r).rstN = s.rstN := by unfold State.boundaryUpdate; dsimp only; split <;> simp
@[simp] theorem State.boundaryUpdate_spdPin (r : Role) (s : State) : (s.boundaryUpdate r).spdPin = s.spdPin := by unfold State.boundaryUpdate; dsimp only; split <;> simp
@[simp] theorem State.boundaryUpdate_epochPin (r : Role) (s : State) : (s.boundaryUpdate r).epochPin = s.epochPin := by unfold State.boundaryUpdate; dsimp only; split <;> simp
@[simp] theorem State.boundaryUpdate_epochTimer (r : Role) (s : State) : (s.boundaryUpdate r).epochTimer = s.epochTimer := by unfold State.boundaryUpdate; dsimp only; split <;> simp
@[simp] theorem State.boundaryUpdate_tmr (r : Role) (s : State) : (s.boundaryUpdate r).tmr = s.tmr := by unfold State.boundaryUpdate; dsimp only; split <;> simp
@[simp] theorem State.boundaryUpdate_sampleDiv (r : Role) (s : State) : (s.boundaryUpdate r).sampleDiv = s.sampleDiv := by unfold State.boundaryUpdate; dsimp only; split <;> simp
@[simp] theorem State.boundaryUpdate_ports (r : Role) (s : State) : (s.boundaryUpdate r).ports = s.ports := by unfold State.boundaryUpdate; dsimp only; split <;> simp
@[simp] theorem State.boundaryUpdate_heldVals (r : Role) (s : State) : (s.boundaryUpdate r).heldVals = s.heldVals := by unfold State.boundaryUpdate; dsimp only; split <;> simp
@[simp] theorem State.boundaryUpdate_snap (r : Role) (s : State) : (s.boundaryUpdate r).snap = s.snap := by unfold State.boundaryUpdate; dsimp only; split <;> simp
@[simp] theorem State.boundaryUpdate_snapDone (r : Role) (s : State) : (s.boundaryUpdate r).snapDone = s.snapDone := by unfold State.boundaryUpdate; dsimp only; split <;> simp
@[simp] theorem State.boundaryUpdate_env (r : Role) (s : State) : (s.boundaryUpdate r).env = s.env := by unfold State.boundaryUpdate; dsimp only; split <;> simp
@[simp] theorem State.boundaryUpdate_envCopy (r : Role) (s : State) : (s.boundaryUpdate r).envCopy = s.envCopy := by unfold State.boundaryUpdate; dsimp only; split <;> simp
@[simp] theorem State.boundaryUpdate_spd (r : Role) (s : State) : (s.boundaryUpdate r).spd = s.spd := by unfold State.boundaryUpdate; dsimp only; split <;> simp
@[simp] theorem State.boundaryUpdate_modeCtl (r : Role) (s : State) : (s.boundaryUpdate r).modeCtl = s.modeCtl := by unfold State.boundaryUpdate; dsimp only; split <;> simp
@[simp] theorem State.boundaryUpdate_request (r : Role) (s : State) : (s.boundaryUpdate r).request = s.request := by unfold State.boundaryUpdate; dsimp only; split <;> simp
@[simp] theorem State.boundaryUpdate_seq (r : Role) (s : State) : (s.boundaryUpdate r).seq = s.seq := by unfold State.boundaryUpdate; dsimp only; split <;> simp
@[simp] theorem State.boundaryUpdate_split (r : Role) (s : State) : (s.boundaryUpdate r).split = s.split := by unfold State.boundaryUpdate; dsimp only; split <;> simp
@[simp] theorem State.boundaryUpdate_splitOut (r : Role) (s : State) : (s.boundaryUpdate r).splitOut = s.splitOut := by unfold State.boundaryUpdate; dsimp only; split <;> simp
@[simp] theorem State.boundaryUpdate_stage (r : Role) (s : State) : (s.boundaryUpdate r).stage = s.stage := by unfold State.boundaryUpdate; dsimp only; split <;> simp
@[simp] theorem State.boundaryUpdate_record (r : Role) (s : State) : (s.boundaryUpdate r).record = s.record := by unfold State.boundaryUpdate; dsimp only; split <;> simp
@[simp] theorem State.boundaryUpdate_pending (r : Role) (s : State) : (s.boundaryUpdate r).pending = s.pending := by unfold State.boundaryUpdate; dsimp only; split <;> simp

/-! ### broadcastAll -/

@[simp] theorem State.broadcastAll_rstN (l : List NoticeKind) (s : State) : (l.foldl (fun t k => t.broadcast k) s).rstN = s.rstN := by induction l generalizing s <;> simp [*]
@[simp] theorem State.broadcastAll_spdPin (l : List NoticeKind) (s : State) : (l.foldl (fun t k => t.broadcast k) s).spdPin = s.spdPin := by induction l generalizing s <;> simp [*]
@[simp] theorem State.broadcastAll_epochPin (l : List NoticeKind) (s : State) : (l.foldl (fun t k => t.broadcast k) s).epochPin = s.epochPin := by induction l generalizing s <;> simp [*]
@[simp] theorem State.broadcastAll_epochTimer (l : List NoticeKind) (s : State) : (l.foldl (fun t k => t.broadcast k) s).epochTimer = s.epochTimer := by induction l generalizing s <;> simp [*]
@[simp] theorem State.broadcastAll_tmr (l : List NoticeKind) (s : State) : (l.foldl (fun t k => t.broadcast k) s).tmr = s.tmr := by induction l generalizing s <;> simp [*]
@[simp] theorem State.broadcastAll_sampleDiv (l : List NoticeKind) (s : State) : (l.foldl (fun t k => t.broadcast k) s).sampleDiv = s.sampleDiv := by induction l generalizing s <;> simp [*]
@[simp] theorem State.broadcastAll_ports (l : List NoticeKind) (s : State) : (l.foldl (fun t k => t.broadcast k) s).ports = s.ports := by induction l generalizing s <;> simp [*]
@[simp] theorem State.broadcastAll_src (l : List NoticeKind) (s : State) : (l.foldl (fun t k => t.broadcast k) s).src = s.src := by induction l generalizing s <;> simp [*]
@[simp] theorem State.broadcastAll_heldVals (l : List NoticeKind) (s : State) : (l.foldl (fun t k => t.broadcast k) s).heldVals = s.heldVals := by induction l generalizing s <;> simp [*]
@[simp] theorem State.broadcastAll_snap (l : List NoticeKind) (s : State) : (l.foldl (fun t k => t.broadcast k) s).snap = s.snap := by induction l generalizing s <;> simp [*]
@[simp] theorem State.broadcastAll_snapDone (l : List NoticeKind) (s : State) : (l.foldl (fun t k => t.broadcast k) s).snapDone = s.snapDone := by induction l generalizing s <;> simp [*]
@[simp] theorem State.broadcastAll_env (l : List NoticeKind) (s : State) : (l.foldl (fun t k => t.broadcast k) s).env = s.env := by induction l generalizing s <;> simp [*]
@[simp] theorem State.broadcastAll_envCopy (l : List NoticeKind) (s : State) : (l.foldl (fun t k => t.broadcast k) s).envCopy = s.envCopy := by induction l generalizing s <;> simp [*]
@[simp] theorem State.broadcastAll_spd (l : List NoticeKind) (s : State) : (l.foldl (fun t k => t.broadcast k) s).spd = s.spd := by induction l generalizing s <;> simp [*]
@[simp] theorem State.broadcastAll_modeCtl (l : List NoticeKind) (s : State) : (l.foldl (fun t k => t.broadcast k) s).modeCtl = s.modeCtl := by induction l generalizing s <;> simp [*]
@[simp] theorem State.broadcastAll_request (l : List NoticeKind) (s : State) : (l.foldl (fun t k => t.broadcast k) s).request = s.request := by induction l generalizing s <;> simp [*]
@[simp] theorem State.broadcastAll_seq (l : List NoticeKind) (s : State) : (l.foldl (fun t k => t.broadcast k) s).seq = s.seq := by induction l generalizing s <;> simp [*]
@[simp] theorem State.broadcastAll_split (l : List NoticeKind) (s : State) : (l.foldl (fun t k => t.broadcast k) s).split = s.split := by induction l generalizing s <;> simp [*]
@[simp] theorem State.broadcastAll_splitOut (l : List NoticeKind) (s : State) : (l.foldl (fun t k => t.broadcast k) s).splitOut = s.splitOut := by induction l generalizing s <;> simp [*]
@[simp] theorem State.broadcastAll_stage (l : List NoticeKind) (s : State) : (l.foldl (fun t k => t.broadcast k) s).stage = s.stage := by induction l generalizing s <;> simp [*]
@[simp] theorem State.broadcastAll_record (l : List NoticeKind) (s : State) : (l.foldl (fun t k => t.broadcast k) s).record = s.record := by induction l generalizing s <;> simp [*]
@[simp] theorem State.broadcastAll_cal (l : List NoticeKind) (s : State) : (l.foldl (fun t k => t.broadcast k) s).cal = s.cal := by induction l generalizing s <;> simp [*]
@[simp] theorem State.broadcastAll_pending (l : List NoticeKind) (s : State) : (l.foldl (fun t k => t.broadcast k) s).pending = s.pending := by induction l generalizing s <;> simp [*]

/-! ### settleSource -/

@[simp] theorem State.settleSource_rstN (r : Role) (s : State) : (s.settleSource r).rstN = s.rstN := by unfold State.settleSource; split <;> simp
@[simp] theorem State.settleSource_spdPin (r : Role) (s : State) : (s.settleSource r).spdPin = s.spdPin := by unfold State.settleSource; split <;> simp
@[simp] theorem State.settleSource_epochPin (r : Role) (s : State) : (s.settleSource r).epochPin = s.epochPin := by unfold State.settleSource; split <;> simp
@[simp] theorem State.settleSource_epochTimer (r : Role) (s : State) : (s.settleSource r).epochTimer = s.epochTimer := by unfold State.settleSource; split <;> simp
@[simp] theorem State.settleSource_tmr (r : Role) (s : State) : (s.settleSource r).tmr = s.tmr := by unfold State.settleSource; split <;> simp
@[simp] theorem State.settleSource_sampleDiv (r : Role) (s : State) : (s.settleSource r).sampleDiv = s.sampleDiv := by unfold State.settleSource; split <;> simp
@[simp] theorem State.settleSource_ports (r : Role) (s : State) : (s.settleSource r).ports = s.ports := by unfold State.settleSource; split <;> simp
@[simp] theorem State.settleSource_heldVals (r : Role) (s : State) : (s.settleSource r).heldVals = s.heldVals := by unfold State.settleSource; split <;> simp
@[simp] theorem State.settleSource_env (r : Role) (s : State) : (s.settleSource r).env = s.env := by unfold State.settleSource; split <;> simp
@[simp] theorem State.settleSource_spd (r : Role) (s : State) : (s.settleSource r).spd = s.spd := by unfold State.settleSource; split <;> simp
@[simp] theorem State.settleSource_modeCtl (r : Role) (s : State) : (s.settleSource r).modeCtl = s.modeCtl := by unfold State.settleSource; split <;> simp
@[simp] theorem State.settleSource_request (r : Role) (s : State) : (s.settleSource r).request = s.request := by unfold State.settleSource; split <;> simp
@[simp] theorem State.settleSource_seq (r : Role) (s : State) : (s.settleSource r).seq = s.seq := by unfold State.settleSource; split <;> simp
@[simp] theorem State.settleSource_split (r : Role) (s : State) : (s.settleSource r).split = s.split := by unfold State.settleSource; split <;> simp
@[simp] theorem State.settleSource_splitOut (r : Role) (s : State) : (s.settleSource r).splitOut = s.splitOut := by unfold State.settleSource; split <;> simp
@[simp] theorem State.settleSource_stage (r : Role) (s : State) : (s.settleSource r).stage = s.stage := by unfold State.settleSource; split <;> simp
@[simp] theorem State.settleSource_record (r : Role) (s : State) : (s.settleSource r).record = s.record := by unfold State.settleSource; split <;> simp
@[simp] theorem State.settleSource_pending (r : Role) (s : State) : (s.settleSource r).pending = s.pending := by unfold State.settleSource; split <;> simp

/-! ### finishSource -/

@[simp] theorem State.finishSource_rstN (r : Role) (s : State) : (s.finishSource r).rstN = s.rstN := by unfold State.finishSource; split <;> simp
@[simp] theorem State.finishSource_spdPin (r : Role) (s : State) : (s.finishSource r).spdPin = s.spdPin := by unfold State.finishSource; split <;> simp
@[simp] theorem State.finishSource_epochPin (r : Role) (s : State) : (s.finishSource r).epochPin = s.epochPin := by unfold State.finishSource; split <;> simp
@[simp] theorem State.finishSource_epochTimer (r : Role) (s : State) : (s.finishSource r).epochTimer = s.epochTimer := by unfold State.finishSource; split <;> simp
@[simp] theorem State.finishSource_tmr (r : Role) (s : State) : (s.finishSource r).tmr = s.tmr := by unfold State.finishSource; split <;> simp
@[simp] theorem State.finishSource_sampleDiv (r : Role) (s : State) : (s.finishSource r).sampleDiv = s.sampleDiv := by unfold State.finishSource; split <;> simp
@[simp] theorem State.finishSource_ports (r : Role) (s : State) : (s.finishSource r).ports = s.ports := by unfold State.finishSource; split <;> simp
@[simp] theorem State.finishSource_heldVals (r : Role) (s : State) : (s.finishSource r).heldVals = s.heldVals := by unfold State.finishSource; split <;> simp
@[simp] theorem State.finishSource_env (r : Role) (s : State) : (s.finishSource r).env = s.env := by unfold State.finishSource; split <;> simp
@[simp] theorem State.finishSource_spd (r : Role) (s : State) : (s.finishSource r).spd = s.spd := by unfold State.finishSource; split <;> simp
@[simp] theorem State.finishSource_modeCtl (r : Role) (s : State) : (s.finishSource r).modeCtl = s.modeCtl := by unfold State.finishSource; split <;> simp
@[simp] theorem State.finishSource_request (r : Role) (s : State) : (s.finishSource r).request = s.request := by unfold State.finishSource; split <;> simp
@[simp] theorem State.finishSource_seq (r : Role) (s : State) : (s.finishSource r).seq = s.seq := by unfold State.finishSource; split <;> simp
@[simp] theorem State.finishSource_split (r : Role) (s : State) : (s.finishSource r).split = s.split := by unfold State.finishSource; split <;> simp
@[simp] theorem State.finishSource_splitOut (r : Role) (s : State) : (s.finishSource r).splitOut = s.splitOut := by unfold State.finishSource; split <;> simp
@[simp] theorem State.finishSource_stage (r : Role) (s : State) : (s.finishSource r).stage = s.stage := by unfold State.finishSource; split <;> simp
@[simp] theorem State.finishSource_record (r : Role) (s : State) : (s.finishSource r).record = s.record := by unfold State.finishSource; split <;> simp
@[simp] theorem State.finishSource_pending (r : Role) (s : State) : (s.finishSource r).pending = s.pending := by unfold State.finishSource; split <;> simp

/-! ### sourceExpiry -/

@[simp] theorem State.sourceExpiry_rstN (d : SourceCtl → Bool) (r : Role) (s : State) : (s.sourceExpiry d r).rstN = s.rstN := by unfold State.sourceExpiry; split <;> simp
@[simp] theorem State.sourceExpiry_spdPin (d : SourceCtl → Bool) (r : Role) (s : State) : (s.sourceExpiry d r).spdPin = s.spdPin := by unfold State.sourceExpiry; split <;> simp
@[simp] theorem State.sourceExpiry_epochPin (d : SourceCtl → Bool) (r : Role) (s : State) : (s.sourceExpiry d r).epochPin = s.epochPin := by unfold State.sourceExpiry; split <;> simp
@[simp] theorem State.sourceExpiry_epochTimer (d : SourceCtl → Bool) (r : Role) (s : State) : (s.sourceExpiry d r).epochTimer = s.epochTimer := by unfold State.sourceExpiry; split <;> simp
@[simp] theorem State.sourceExpiry_tmr (d : SourceCtl → Bool) (r : Role) (s : State) : (s.sourceExpiry d r).tmr = s.tmr := by unfold State.sourceExpiry; split <;> simp
@[simp] theorem State.sourceExpiry_sampleDiv (d : SourceCtl → Bool) (r : Role) (s : State) : (s.sourceExpiry d r).sampleDiv = s.sampleDiv := by unfold State.sourceExpiry; split <;> simp
@[simp] theorem State.sourceExpiry_ports (d : SourceCtl → Bool) (r : Role) (s : State) : (s.sourceExpiry d r).ports = s.ports := by unfold State.sourceExpiry; split <;> simp
@[simp] theorem State.sourceExpiry_heldVals (d : SourceCtl → Bool) (r : Role) (s : State) : (s.sourceExpiry d r).heldVals = s.heldVals := by unfold State.sourceExpiry; split <;> simp
@[simp] theorem State.sourceExpiry_env (d : SourceCtl → Bool) (r : Role) (s : State) : (s.sourceExpiry d r).env = s.env := by unfold State.sourceExpiry; split <;> simp
@[simp] theorem State.sourceExpiry_spd (d : SourceCtl → Bool) (r : Role) (s : State) : (s.sourceExpiry d r).spd = s.spd := by unfold State.sourceExpiry; split <;> simp
@[simp] theorem State.sourceExpiry_modeCtl (d : SourceCtl → Bool) (r : Role) (s : State) : (s.sourceExpiry d r).modeCtl = s.modeCtl := by unfold State.sourceExpiry; split <;> simp
@[simp] theorem State.sourceExpiry_request (d : SourceCtl → Bool) (r : Role) (s : State) : (s.sourceExpiry d r).request = s.request := by unfold State.sourceExpiry; split <;> simp
@[simp] theorem State.sourceExpiry_seq (d : SourceCtl → Bool) (r : Role) (s : State) : (s.sourceExpiry d r).seq = s.seq := by unfold State.sourceExpiry; split <;> simp
@[simp] theorem State.sourceExpiry_split (d : SourceCtl → Bool) (r : Role) (s : State) : (s.sourceExpiry d r).split = s.split := by unfold State.sourceExpiry; split <;> simp
@[simp] theorem State.sourceExpiry_splitOut (d : SourceCtl → Bool) (r : Role) (s : State) : (s.sourceExpiry d r).splitOut = s.splitOut := by unfold State.sourceExpiry; split <;> simp
@[simp] theorem State.sourceExpiry_stage (d : SourceCtl → Bool) (r : Role) (s : State) : (s.sourceExpiry d r).stage = s.stage := by unfold State.sourceExpiry; split <;> simp
@[simp] theorem State.sourceExpiry_record (d : SourceCtl → Bool) (r : Role) (s : State) : (s.sourceExpiry d r).record = s.record := by unfold State.sourceExpiry; split <;> simp
@[simp] theorem State.sourceExpiry_pending (d : SourceCtl → Bool) (r : Role) (s : State) : (s.sourceExpiry d r).pending = s.pending := by unfold State.sourceExpiry; split <;> simp

/-! ### snapshotStage -/

@[simp] theorem State.snapshotStage_rstN (s : State) : (s.snapshotStage).rstN = s.rstN := by unfold State.snapshotStage; split <;> simp
@[simp] theorem State.snapshotStage_spdPin (s : State) : (s.snapshotStage).spdPin = s.spdPin := by unfold State.snapshotStage; split <;> simp
@[simp] theorem State.snapshotStage_epochPin (s : State) : (s.snapshotStage).epochPin = s.epochPin := by unfold State.snapshotStage; split <;> simp
@[simp] theorem State.snapshotStage_epochTimer (s : State) : (s.snapshotStage).epochTimer = s.epochTimer := by unfold State.snapshotStage; split <;> simp
@[simp] theorem State.snapshotStage_tmr (s : State) : (s.snapshotStage).tmr = s.tmr := by unfold State.snapshotStage; split <;> simp
@[simp] theorem State.snapshotStage_sampleDiv (s : State) : (s.snapshotStage).sampleDiv = s.sampleDiv := by unfold State.snapshotStage; split <;> simp
@[simp] theorem State.snapshotStage_ports (s : State) : (s.snapshotStage).ports = s.ports := by unfold State.snapshotStage; split <;> simp
@[simp] theorem State.snapshotStage_heldVals (s : State) : (s.snapshotStage).heldVals = s.heldVals := by unfold State.snapshotStage; split <;> simp
@[simp] theorem State.snapshotStage_env (s : State) : (s.snapshotStage).env = s.env := by unfold State.snapshotStage; split <;> simp
@[simp] theorem State.snapshotStage_spd (s : State) : (s.snapshotStage).spd = s.spd := by unfold State.snapshotStage; split <;> simp
@[simp] theorem State.snapshotStage_modeCtl (s : State) : (s.snapshotStage).modeCtl = s.modeCtl := by unfold State.snapshotStage; split <;> simp
@[simp] theorem State.snapshotStage_request (s : State) : (s.snapshotStage).request = s.request := by unfold State.snapshotStage; split <;> simp
@[simp] theorem State.snapshotStage_seq (s : State) : (s.snapshotStage).seq = s.seq := by unfold State.snapshotStage; split <;> simp
@[simp] theorem State.snapshotStage_split (s : State) : (s.snapshotStage).split = s.split := by unfold State.snapshotStage; split <;> simp
@[simp] theorem State.snapshotStage_splitOut (s : State) : (s.snapshotStage).splitOut = s.splitOut := by unfold State.snapshotStage; split <;> simp
@[simp] theorem State.snapshotStage_record (s : State) : (s.snapshotStage).record = s.record := by unfold State.snapshotStage; split <;> simp
@[simp] theorem State.snapshotStage_pending (s : State) : (s.snapshotStage).pending = s.pending := by unfold State.snapshotStage; split <;> simp

/-! ### speedStage -/

@[simp] theorem State.speedStage_rstN (s : State) : (s.speedStage).rstN = s.rstN := by unfold State.speedStage; split <;> simp
@[simp] theorem State.speedStage_spdPin (s : State) : (s.speedStage).spdPin = s.spdPin := by unfold State.speedStage; split <;> simp
@[simp] theorem State.speedStage_epochPin (s : State) : (s.speedStage).epochPin = s.epochPin := by unfold State.speedStage; split <;> simp
@[simp] theorem State.speedStage_epochTimer (s : State) : (s.speedStage).epochTimer = s.epochTimer := by unfold State.speedStage; split <;> simp
@[simp] theorem State.speedStage_tmr (s : State) : (s.speedStage).tmr = s.tmr := by unfold State.speedStage; split <;> simp
@[simp] theorem State.speedStage_sampleDiv (s : State) : (s.speedStage).sampleDiv = s.sampleDiv := by unfold State.speedStage; split <;> simp
@[simp] theorem State.speedStage_ports (s : State) : (s.speedStage).ports = s.ports := by unfold State.speedStage; split <;> simp
@[simp] theorem State.speedStage_src (s : State) : (s.speedStage).src = s.src := by unfold State.speedStage; split <;> simp
@[simp] theorem State.speedStage_heldVals (s : State) : (s.speedStage).heldVals = s.heldVals := by unfold State.speedStage; split <;> simp
@[simp] theorem State.speedStage_snap (s : State) : (s.speedStage).snap = s.snap := by unfold State.speedStage; split <;> simp
@[simp] theorem State.speedStage_snapDone (s : State) : (s.speedStage).snapDone = s.snapDone := by unfold State.speedStage; split <;> simp
@[simp] theorem State.speedStage_env (s : State) : (s.speedStage).env = s.env := by unfold State.speedStage; split <;> simp
@[simp] theorem State.speedStage_envCopy (s : State) : (s.speedStage).envCopy = s.envCopy := by unfold State.speedStage; split <;> simp
@[simp] theorem State.speedStage_modeCtl (s : State) : (s.speedStage).modeCtl = s.modeCtl := by unfold State.speedStage; split <;> simp
@[simp] theorem State.speedStage_request (s : State) : (s.speedStage).request = s.request := by unfold State.speedStage; split <;> simp
@[simp] theorem State.speedStage_seq (s : State) : (s.speedStage).seq = s.seq := by unfold State.speedStage; split <;> simp
@[simp] theorem State.speedStage_split (s : State) : (s.speedStage).split = s.split := by unfold State.speedStage; split <;> simp
@[simp] theorem State.speedStage_splitOut (s : State) : (s.speedStage).splitOut = s.splitOut := by unfold State.speedStage; split <;> simp
@[simp] theorem State.speedStage_record (s : State) : (s.speedStage).record = s.record := by unfold State.speedStage; split <;> simp
@[simp] theorem State.speedStage_cal (s : State) : (s.speedStage).cal = s.cal := by unfold State.speedStage; split <;> simp
@[simp] theorem State.speedStage_pending (s : State) : (s.speedStage).pending = s.pending := by unfold State.speedStage; split <;> simp

/-! ### samplePin -/

@[simp] theorem State.samplePin_rstN (b : Bool) (s : State) : (s.samplePin b).rstN = s.rstN := by unfold State.samplePin; split <;> rfl
@[simp] theorem State.samplePin_epochPin (b : Bool) (s : State) : (s.samplePin b).epochPin = s.epochPin := by unfold State.samplePin; split <;> rfl
@[simp] theorem State.samplePin_epochTimer (b : Bool) (s : State) : (s.samplePin b).epochTimer = s.epochTimer := by unfold State.samplePin; split <;> rfl
@[simp] theorem State.samplePin_tmr (b : Bool) (s : State) : (s.samplePin b).tmr = s.tmr := by unfold State.samplePin; split <;> rfl
@[simp] theorem State.samplePin_ports (b : Bool) (s : State) : (s.samplePin b).ports = s.ports := by unfold State.samplePin; split <;> rfl
@[simp] theorem State.samplePin_src (b : Bool) (s : State) : (s.samplePin b).src = s.src := by unfold State.samplePin; split <;> rfl
@[simp] theorem State.samplePin_heldVals (b : Bool) (s : State) : (s.samplePin b).heldVals = s.heldVals := by unfold State.samplePin; split <;> rfl
@[simp] theorem State.samplePin_snap (b : Bool) (s : State) : (s.samplePin b).snap = s.snap := by unfold State.samplePin; split <;> rfl
@[simp] theorem State.samplePin_snapDone (b : Bool) (s : State) : (s.samplePin b).snapDone = s.snapDone := by unfold State.samplePin; split <;> rfl
@[simp] theorem State.samplePin_env (b : Bool) (s : State) : (s.samplePin b).env = s.env := by unfold State.samplePin; split <;> rfl
@[simp] theorem State.samplePin_envCopy (b : Bool) (s : State) : (s.samplePin b).envCopy = s.envCopy := by unfold State.samplePin; split <;> rfl
@[simp] theorem State.samplePin_modeCtl (b : Bool) (s : State) : (s.samplePin b).modeCtl = s.modeCtl := by unfold State.samplePin; split <;> rfl
@[simp] theorem State.samplePin_request (b : Bool) (s : State) : (s.samplePin b).request = s.request := by unfold State.samplePin; split <;> rfl
@[simp] theorem State.samplePin_seq (b : Bool) (s : State) : (s.samplePin b).seq = s.seq := by unfold State.samplePin; split <;> rfl
@[simp] theorem State.samplePin_split (b : Bool) (s : State) : (s.samplePin b).split = s.split := by unfold State.samplePin; split <;> rfl
@[simp] theorem State.samplePin_splitOut (b : Bool) (s : State) : (s.samplePin b).splitOut = s.splitOut := by unfold State.samplePin; split <;> rfl
@[simp] theorem State.samplePin_stage (b : Bool) (s : State) : (s.samplePin b).stage = s.stage := by unfold State.samplePin; split <;> rfl
@[simp] theorem State.samplePin_record (b : Bool) (s : State) : (s.samplePin b).record = s.record := by unfold State.samplePin; split <;> rfl
@[simp] theorem State.samplePin_cal (b : Bool) (s : State) : (s.samplePin b).cal = s.cal := by unfold State.samplePin; split <;> rfl
@[simp] theorem State.samplePin_ntc (b : Bool) (s : State) : (s.samplePin b).ntc = s.ntc := by unfold State.samplePin; split <;> rfl
@[simp] theorem State.samplePin_pending (b : Bool) (s : State) : (s.samplePin b).pending = s.pending := by unfold State.samplePin; split <;> rfl

/-! ### modeStage -/

@[simp] theorem State.modeStage_rstN (s : State) : (s.modeStage).rstN = s.rstN := by unfold State.modeStage; split <;> simp
@[simp] theorem State.modeStage_spdPin (s : State) : (s.modeStage).spdPin = s.spdPin := by unfold State.modeStage; split <;> simp
@[simp] theorem State.modeStage_epochPin (s : State) : (s.modeStage).epochPin = s.epochPin := by unfold State.modeStage; split <;> simp
@[simp] theorem State.modeStage_epochTimer (s : State) : (s.modeStage).epochTimer = s.epochTimer := by unfold State.modeStage; split <;> simp
@[simp] theorem State.modeStage_tmr (s : State) : (s.modeStage).tmr = s.tmr := by unfold State.modeStage; split <;> simp
@[simp] theorem State.modeStage_sampleDiv (s : State) : (s.modeStage).sampleDiv = s.sampleDiv := by unfold State.modeStage; split <;> simp
@[simp] theorem State.modeStage_ports (s : State) : (s.modeStage).ports = s.ports := by unfold State.modeStage; split <;> simp
@[simp] theorem State.modeStage_src (s : State) : (s.modeStage).src = s.src := by unfold State.modeStage; split <;> simp
@[simp] theorem State.modeStage_heldVals (s : State) : (s.modeStage).heldVals = s.heldVals := by unfold State.modeStage; split <;> simp
@[simp] theorem State.modeStage_snap (s : State) : (s.modeStage).snap = s.snap := by unfold State.modeStage; split <;> simp
@[simp] theorem State.modeStage_snapDone (s : State) : (s.modeStage).snapDone = s.snapDone := by unfold State.modeStage; split <;> simp
@[simp] theorem State.modeStage_env (s : State) : (s.modeStage).env = s.env := by unfold State.modeStage; split <;> simp
@[simp] theorem State.modeStage_envCopy (s : State) : (s.modeStage).envCopy = s.envCopy := by unfold State.modeStage; split <;> simp
@[simp] theorem State.modeStage_spd (s : State) : (s.modeStage).spd = s.spd := by unfold State.modeStage; split <;> simp
@[simp] theorem State.modeStage_split (s : State) : (s.modeStage).split = s.split := by unfold State.modeStage; split <;> simp
@[simp] theorem State.modeStage_splitOut (s : State) : (s.modeStage).splitOut = s.splitOut := by unfold State.modeStage; split <;> simp
@[simp] theorem State.modeStage_record (s : State) : (s.modeStage).record = s.record := by unfold State.modeStage; split <;> simp
@[simp] theorem State.modeStage_cal (s : State) : (s.modeStage).cal = s.cal := by unfold State.modeStage; split <;> simp
@[simp] theorem State.modeStage_pending (s : State) : (s.modeStage).pending = s.pending := by unfold State.modeStage; split <;> simp

/-! ### seqStage -/

@[simp] theorem State.seqStage_rstN (s : State) : (s.seqStage).rstN = s.rstN := by unfold State.seqStage; split <;> simp
@[simp] theorem State.seqStage_spdPin (s : State) : (s.seqStage).spdPin = s.spdPin := by unfold State.seqStage; split <;> simp
@[simp] theorem State.seqStage_epochPin (s : State) : (s.seqStage).epochPin = s.epochPin := by unfold State.seqStage; split <;> simp
@[simp] theorem State.seqStage_epochTimer (s : State) : (s.seqStage).epochTimer = s.epochTimer := by unfold State.seqStage; split <;> simp
@[simp] theorem State.seqStage_tmr (s : State) : (s.seqStage).tmr = s.tmr := by unfold State.seqStage; split <;> simp
@[simp] theorem State.seqStage_sampleDiv (s : State) : (s.seqStage).sampleDiv = s.sampleDiv := by unfold State.seqStage; split <;> simp
@[simp] theorem State.seqStage_ports (s : State) : (s.seqStage).ports = s.ports := by unfold State.seqStage; split <;> simp
@[simp] theorem State.seqStage_src (s : State) : (s.seqStage).src = s.src := by unfold State.seqStage; split <;> simp
@[simp] theorem State.seqStage_heldVals (s : State) : (s.seqStage).heldVals = s.heldVals := by unfold State.seqStage; split <;> simp
@[simp] theorem State.seqStage_snap (s : State) : (s.seqStage).snap = s.snap := by unfold State.seqStage; split <;> simp
@[simp] theorem State.seqStage_snapDone (s : State) : (s.seqStage).snapDone = s.snapDone := by unfold State.seqStage; split <;> simp
@[simp] theorem State.seqStage_env (s : State) : (s.seqStage).env = s.env := by unfold State.seqStage; split <;> simp
@[simp] theorem State.seqStage_envCopy (s : State) : (s.seqStage).envCopy = s.envCopy := by unfold State.seqStage; split <;> simp
@[simp] theorem State.seqStage_spd (s : State) : (s.seqStage).spd = s.spd := by unfold State.seqStage; split <;> simp
@[simp] theorem State.seqStage_split (s : State) : (s.seqStage).split = s.split := by unfold State.seqStage; split <;> simp
@[simp] theorem State.seqStage_splitOut (s : State) : (s.seqStage).splitOut = s.splitOut := by unfold State.seqStage; split <;> simp
@[simp] theorem State.seqStage_record (s : State) : (s.seqStage).record = s.record := by unfold State.seqStage; split <;> simp
@[simp] theorem State.seqStage_cal (s : State) : (s.seqStage).cal = s.cal := by unfold State.seqStage; split <;> simp
@[simp] theorem State.seqStage_pending (s : State) : (s.seqStage).pending = s.pending := by unfold State.seqStage; split <;> simp

/-! ### timeoutStage -/

@[simp] theorem State.timeoutStage_rstN (st : SeqState) (s : State) : (s.timeoutStage st).rstN = s.rstN := by unfold State.timeoutStage; split <;> simp
@[simp] theorem State.timeoutStage_spdPin (st : SeqState) (s : State) : (s.timeoutStage st).spdPin = s.spdPin := by unfold State.timeoutStage; split <;> simp
@[simp] theorem State.timeoutStage_epochPin (st : SeqState) (s : State) : (s.timeoutStage st).epochPin = s.epochPin := by unfold State.timeoutStage; split <;> simp
@[simp] theorem State.timeoutStage_epochTimer (st : SeqState) (s : State) : (s.timeoutStage st).epochTimer = s.epochTimer := by unfold State.timeoutStage; split <;> simp
@[simp] theorem State.timeoutStage_tmr (st : SeqState) (s : State) : (s.timeoutStage st).tmr = s.tmr := by unfold State.timeoutStage; split <;> simp
@[simp] theorem State.timeoutStage_sampleDiv (st : SeqState) (s : State) : (s.timeoutStage st).sampleDiv = s.sampleDiv := by unfold State.timeoutStage; split <;> simp
@[simp] theorem State.timeoutStage_ports (st : SeqState) (s : State) : (s.timeoutStage st).ports = s.ports := by unfold State.timeoutStage; split <;> simp
@[simp] theorem State.timeoutStage_src (st : SeqState) (s : State) : (s.timeoutStage st).src = s.src := by unfold State.timeoutStage; split <;> simp
@[simp] theorem State.timeoutStage_heldVals (st : SeqState) (s : State) : (s.timeoutStage st).heldVals = s.heldVals := by unfold State.timeoutStage; split <;> simp
@[simp] theorem State.timeoutStage_snap (st : SeqState) (s : State) : (s.timeoutStage st).snap = s.snap := by unfold State.timeoutStage; split <;> simp
@[simp] theorem State.timeoutStage_snapDone (st : SeqState) (s : State) : (s.timeoutStage st).snapDone = s.snapDone := by unfold State.timeoutStage; split <;> simp
@[simp] theorem State.timeoutStage_env (st : SeqState) (s : State) : (s.timeoutStage st).env = s.env := by unfold State.timeoutStage; split <;> simp
@[simp] theorem State.timeoutStage_envCopy (st : SeqState) (s : State) : (s.timeoutStage st).envCopy = s.envCopy := by unfold State.timeoutStage; split <;> simp
@[simp] theorem State.timeoutStage_spd (st : SeqState) (s : State) : (s.timeoutStage st).spd = s.spd := by unfold State.timeoutStage; split <;> simp
@[simp] theorem State.timeoutStage_split (st : SeqState) (s : State) : (s.timeoutStage st).split = s.split := by unfold State.timeoutStage; split <;> simp
@[simp] theorem State.timeoutStage_splitOut (st : SeqState) (s : State) : (s.timeoutStage st).splitOut = s.splitOut := by unfold State.timeoutStage; split <;> simp
@[simp] theorem State.timeoutStage_record (st : SeqState) (s : State) : (s.timeoutStage st).record = s.record := by unfold State.timeoutStage; split <;> simp
@[simp] theorem State.timeoutStage_cal (st : SeqState) (s : State) : (s.timeoutStage st).cal = s.cal := by unfold State.timeoutStage; split <;> simp
@[simp] theorem State.timeoutStage_pending (st : SeqState) (s : State) : (s.timeoutStage st).pending = s.pending := by unfold State.timeoutStage; split <;> simp

/-! ### splitStage -/

@[simp] theorem State.splitStage_rstN (s : State) : (s.splitStage).rstN = s.rstN := by unfold State.splitStage; split <;> simp
@[simp] theorem State.splitStage_spdPin (s : State) : (s.splitStage).spdPin = s.spdPin := by unfold State.splitStage; split <;> simp
@[simp] theorem State.splitStage_epochPin (s : State) : (s.splitStage).epochPin = s.epochPin := by unfold State.splitStage; split <;> simp
@[simp] theorem State.splitStage_epochTimer (s : State) : (s.splitStage).epochTimer = s.epochTimer := by unfold State.splitStage; split <;> simp
@[simp] theorem State.splitStage_tmr (s : State) : (s.splitStage).tmr = s.tmr := by unfold State.splitStage; split <;> simp
@[simp] theorem State.splitStage_sampleDiv (s : State) : (s.splitStage).sampleDiv = s.sampleDiv := by unfold State.splitStage; split <;> simp
@[simp] theorem State.splitStage_ports (s : State) : (s.splitStage).ports = s.ports := by unfold State.splitStage; split <;> simp
@[simp] theorem State.splitStage_src (s : State) : (s.splitStage).src = s.src := by unfold State.splitStage; split <;> simp
@[simp] theorem State.splitStage_heldVals (s : State) : (s.splitStage).heldVals = s.heldVals := by unfold State.splitStage; split <;> simp
@[simp] theorem State.splitStage_snap (s : State) : (s.splitStage).snap = s.snap := by unfold State.splitStage; split <;> simp
@[simp] theorem State.splitStage_snapDone (s : State) : (s.splitStage).snapDone = s.snapDone := by unfold State.splitStage; split <;> simp
@[simp] theorem State.splitStage_env (s : State) : (s.splitStage).env = s.env := by unfold State.splitStage; split <;> simp
@[simp] theorem State.splitStage_envCopy (s : State) : (s.splitStage).envCopy = s.envCopy := by unfold State.splitStage; split <;> simp
@[simp] theorem State.splitStage_spd (s : State) : (s.splitStage).spd = s.spd := by unfold State.splitStage; split <;> simp
@[simp] theorem State.splitStage_modeCtl (s : State) : (s.splitStage).modeCtl = s.modeCtl := by unfold State.splitStage; split <;> simp
@[simp] theorem State.splitStage_request (s : State) : (s.splitStage).request = s.request := by unfold State.splitStage; split <;> simp
@[simp] theorem State.splitStage_seq (s : State) : (s.splitStage).seq = s.seq := by unfold State.splitStage; split <;> simp
@[simp] theorem State.splitStage_record (s : State) : (s.splitStage).record = s.record := by unfold State.splitStage; split <;> simp
@[simp] theorem State.splitStage_cal (s : State) : (s.splitStage).cal = s.cal := by unfold State.splitStage; split <;> simp
@[simp] theorem State.splitStage_pending (s : State) : (s.splitStage).pending = s.pending := by unfold State.splitStage; split <;> simp

/-! ### publishStage -/

@[simp] theorem State.publishStage_rstN (s : State) : (s.publishStage).rstN = s.rstN := by unfold State.publishStage; split <;> simp
@[simp] theorem State.publishStage_spdPin (s : State) : (s.publishStage).spdPin = s.spdPin := by unfold State.publishStage; split <;> simp
@[simp] theorem State.publishStage_tmr (s : State) : (s.publishStage).tmr = s.tmr := by unfold State.publishStage; split <;> simp
@[simp] theorem State.publishStage_sampleDiv (s : State) : (s.publishStage).sampleDiv = s.sampleDiv := by unfold State.publishStage; split <;> simp
@[simp] theorem State.publishStage_ports (s : State) : (s.publishStage).ports = s.ports := by unfold State.publishStage; split <;> simp
@[simp] theorem State.publishStage_src (s : State) : (s.publishStage).src = s.src := by unfold State.publishStage; split <;> simp
@[simp] theorem State.publishStage_heldVals (s : State) : (s.publishStage).heldVals = s.heldVals := by unfold State.publishStage; split <;> simp
@[simp] theorem State.publishStage_snap (s : State) : (s.publishStage).snap = s.snap := by unfold State.publishStage; split <;> simp
@[simp] theorem State.publishStage_snapDone (s : State) : (s.publishStage).snapDone = s.snapDone := by unfold State.publishStage; split <;> simp
@[simp] theorem State.publishStage_env (s : State) : (s.publishStage).env = s.env := by unfold State.publishStage; split <;> simp
@[simp] theorem State.publishStage_envCopy (s : State) : (s.publishStage).envCopy = s.envCopy := by unfold State.publishStage; split <;> simp
@[simp] theorem State.publishStage_spd (s : State) : (s.publishStage).spd = s.spd := by unfold State.publishStage; split <;> simp
@[simp] theorem State.publishStage_modeCtl (s : State) : (s.publishStage).modeCtl = s.modeCtl := by unfold State.publishStage; split <;> simp
@[simp] theorem State.publishStage_request (s : State) : (s.publishStage).request = s.request := by unfold State.publishStage; split <;> simp
@[simp] theorem State.publishStage_seq (s : State) : (s.publishStage).seq = s.seq := by unfold State.publishStage; split <;> simp
@[simp] theorem State.publishStage_splitOut (s : State) : (s.publishStage).splitOut = s.splitOut := by unfold State.publishStage; split <;> simp
@[simp] theorem State.publishStage_cal (s : State) : (s.publishStage).cal = s.cal := by unfold State.publishStage; split <;> simp
@[simp] theorem State.publishStage_pending (s : State) : (s.publishStage).pending = s.pending := by unfold State.publishStage; split <;> simp

/-! ### applyCommit -/

@[simp] theorem State.applyCommit_rstN (c : Claim) (s : State) : (s.applyCommit c).rstN = s.rstN := by simp [State.applyCommit]
@[simp] theorem State.applyCommit_spdPin (c : Claim) (s : State) : (s.applyCommit c).spdPin = s.spdPin := by simp [State.applyCommit]
@[simp] theorem State.applyCommit_epochPin (c : Claim) (s : State) : (s.applyCommit c).epochPin = s.epochPin := by simp [State.applyCommit]
@[simp] theorem State.applyCommit_epochTimer (c : Claim) (s : State) : (s.applyCommit c).epochTimer = s.epochTimer := by simp [State.applyCommit]
@[simp] theorem State.applyCommit_tmr (c : Claim) (s : State) : (s.applyCommit c).tmr = s.tmr := by simp [State.applyCommit]
@[simp] theorem State.applyCommit_sampleDiv (c : Claim) (s : State) : (s.applyCommit c).sampleDiv = s.sampleDiv := by simp [State.applyCommit]
@[simp] theorem State.applyCommit_ports (c : Claim) (s : State) : (s.applyCommit c).ports = s.ports := by simp [State.applyCommit]
@[simp] theorem State.applyCommit_heldVals (c : Claim) (s : State) : (s.applyCommit c).heldVals = s.heldVals := by simp [State.applyCommit]
@[simp] theorem State.applyCommit_snap (c : Claim) (s : State) : (s.applyCommit c).snap = s.snap := by simp [State.applyCommit]
@[simp] theorem State.applyCommit_snapDone (c : Claim) (s : State) : (s.applyCommit c).snapDone = s.snapDone := by simp [State.applyCommit]
@[simp] theorem State.applyCommit_env (c : Claim) (s : State) : (s.applyCommit c).env = s.env := by simp [State.applyCommit]
@[simp] theorem State.applyCommit_envCopy (c : Claim) (s : State) : (s.applyCommit c).envCopy = s.envCopy := by simp [State.applyCommit]
@[simp] theorem State.applyCommit_modeCtl (c : Claim) (s : State) : (s.applyCommit c).modeCtl = s.modeCtl := by simp [State.applyCommit]
@[simp] theorem State.applyCommit_request (c : Claim) (s : State) : (s.applyCommit c).request = s.request := by simp [State.applyCommit]
@[simp] theorem State.applyCommit_split (c : Claim) (s : State) : (s.applyCommit c).split = s.split := by simp [State.applyCommit]
@[simp] theorem State.applyCommit_splitOut (c : Claim) (s : State) : (s.applyCommit c).splitOut = s.splitOut := by simp [State.applyCommit]
@[simp] theorem State.applyCommit_stage (c : Claim) (s : State) : (s.applyCommit c).stage = s.stage := by simp [State.applyCommit]
@[simp] theorem State.applyCommit_record (c : Claim) (s : State) : (s.applyCommit c).record = s.record := by simp [State.applyCommit]
@[simp] theorem State.applyCommit_pending (c : Claim) (s : State) : (s.applyCommit c).pending = s.pending := by simp [State.applyCommit]

/-! ### rejectCommit -/

@[simp] theorem State.rejectCommit_rstN (c : Claim) (y : Rejection) (s : State) : (s.rejectCommit c y).rstN = s.rstN := by simp [State.rejectCommit]
@[simp] theorem State.rejectCommit_spdPin (c : Claim) (y : Rejection) (s : State) : (s.rejectCommit c y).spdPin = s.spdPin := by simp [State.rejectCommit]
@[simp] theorem State.rejectCommit_epochPin (c : Claim) (y : Rejection) (s : State) : (s.rejectCommit c y).epochPin = s.epochPin := by simp [State.rejectCommit]
@[simp] theorem State.rejectCommit_epochTimer (c : Claim) (y : Rejection) (s : State) : (s.rejectCommit c y).epochTimer = s.epochTimer := by simp [State.rejectCommit]
@[simp] theorem State.rejectCommit_tmr (c : Claim) (y : Rejection) (s : State) : (s.rejectCommit c y).tmr = s.tmr := by simp [State.rejectCommit]
@[simp] theorem State.rejectCommit_sampleDiv (c : Claim) (y : Rejection) (s : State) : (s.rejectCommit c y).sampleDiv = s.sampleDiv := by simp [State.rejectCommit]
@[simp] theorem State.rejectCommit_ports (c : Claim) (y : Rejection) (s : State) : (s.rejectCommit c y).ports = s.ports := by simp [State.rejectCommit]
@[simp] theorem State.rejectCommit_src (c : Claim) (y : Rejection) (s : State) : (s.rejectCommit c y).src = s.src := by simp [State.rejectCommit]
@[simp] theorem State.rejectCommit_heldVals (c : Claim) (y : Rejection) (s : State) : (s.rejectCommit c y).heldVals = s.heldVals := by simp [State.rejectCommit]
@[simp] theorem State.rejectCommit_snap (c : Claim) (y : Rejection) (s : State) : (s.rejectCommit c y).snap = s.snap := by simp [State.rejectCommit]
@[simp] theorem State.rejectCommit_snapDone (c : Claim) (y : Rejection) (s : State) : (s.rejectCommit c y).snapDone = s.snapDone := by simp [State.rejectCommit]
@[simp] theorem State.rejectCommit_env (c : Claim) (y : Rejection) (s : State) : (s.rejectCommit c y).env = s.env := by simp [State.rejectCommit]
@[simp] theorem State.rejectCommit_envCopy (c : Claim) (y : Rejection) (s : State) : (s.rejectCommit c y).envCopy = s.envCopy := by simp [State.rejectCommit]
@[simp] theorem State.rejectCommit_spd (c : Claim) (y : Rejection) (s : State) : (s.rejectCommit c y).spd = s.spd := by simp [State.rejectCommit]
@[simp] theorem State.rejectCommit_modeCtl (c : Claim) (y : Rejection) (s : State) : (s.rejectCommit c y).modeCtl = s.modeCtl := by simp [State.rejectCommit]
@[simp] theorem State.rejectCommit_request (c : Claim) (y : Rejection) (s : State) : (s.rejectCommit c y).request = s.request := by simp [State.rejectCommit]
@[simp] theorem State.rejectCommit_seq (c : Claim) (y : Rejection) (s : State) : (s.rejectCommit c y).seq = s.seq := by simp [State.rejectCommit]
@[simp] theorem State.rejectCommit_split (c : Claim) (y : Rejection) (s : State) : (s.rejectCommit c y).split = s.split := by simp [State.rejectCommit]
@[simp] theorem State.rejectCommit_splitOut (c : Claim) (y : Rejection) (s : State) : (s.rejectCommit c y).splitOut = s.splitOut := by simp [State.rejectCommit]
@[simp] theorem State.rejectCommit_stage (c : Claim) (y : Rejection) (s : State) : (s.rejectCommit c y).stage = s.stage := by simp [State.rejectCommit]
@[simp] theorem State.rejectCommit_record (c : Claim) (y : Rejection) (s : State) : (s.rejectCommit c y).record = s.record := by simp [State.rejectCommit]
@[simp] theorem State.rejectCommit_pending (c : Claim) (y : Rejection) (s : State) : (s.rejectCommit c y).pending = s.pending := by simp [State.rejectCommit]

/-! ### settleCommit -/

@[simp] theorem State.settleCommit_rstN (s : State) : (s.settleCommit).rstN = s.rstN := by unfold State.settleCommit; split <;> (try split) <;> (try split) <;> simp
@[simp] theorem State.settleCommit_spdPin (s : State) : (s.settleCommit).spdPin = s.spdPin := by unfold State.settleCommit; split <;> (try split) <;> (try split) <;> simp
@[simp] theorem State.settleCommit_epochPin (s : State) : (s.settleCommit).epochPin = s.epochPin := by unfold State.settleCommit; split <;> (try split) <;> (try split) <;> simp
@[simp] theorem State.settleCommit_epochTimer (s : State) : (s.settleCommit).epochTimer = s.epochTimer := by unfold State.settleCommit; split <;> (try split) <;> (try split) <;> simp
@[simp] theorem State.settleCommit_tmr (s : State) : (s.settleCommit).tmr = s.tmr := by unfold State.settleCommit; split <;> (try split) <;> (try split) <;> simp
@[simp] theorem State.settleCommit_sampleDiv (s : State) : (s.settleCommit).sampleDiv = s.sampleDiv := by unfold State.settleCommit; split <;> (try split) <;> (try split) <;> simp
@[simp] theorem State.settleCommit_ports (s : State) : (s.settleCommit).ports = s.ports := by unfold State.settleCommit; split <;> (try split) <;> (try split) <;> simp
@[simp] theorem State.settleCommit_heldVals (s : State) : (s.settleCommit).heldVals = s.heldVals := by unfold State.settleCommit; split <;> (try split) <;> (try split) <;> simp
@[simp] theorem State.settleCommit_snap (s : State) : (s.settleCommit).snap = s.snap := by unfold State.settleCommit; split <;> (try split) <;> (try split) <;> simp
@[simp] theorem State.settleCommit_snapDone (s : State) : (s.settleCommit).snapDone = s.snapDone := by unfold State.settleCommit; split <;> (try split) <;> (try split) <;> simp
@[simp] theorem State.settleCommit_env (s : State) : (s.settleCommit).env = s.env := by unfold State.settleCommit; split <;> (try split) <;> (try split) <;> simp
@[simp] theorem State.settleCommit_envCopy (s : State) : (s.settleCommit).envCopy = s.envCopy := by unfold State.settleCommit; split <;> (try split) <;> (try split) <;> simp
@[simp] theorem State.settleCommit_modeCtl (s : State) : (s.settleCommit).modeCtl = s.modeCtl := by unfold State.settleCommit; split <;> (try split) <;> (try split) <;> simp
@[simp] theorem State.settleCommit_request (s : State) : (s.settleCommit).request = s.request := by unfold State.settleCommit; split <;> (try split) <;> (try split) <;> simp
@[simp] theorem State.settleCommit_split (s : State) : (s.settleCommit).split = s.split := by unfold State.settleCommit; split <;> (try split) <;> (try split) <;> simp
@[simp] theorem State.settleCommit_splitOut (s : State) : (s.settleCommit).splitOut = s.splitOut := by unfold State.settleCommit; split <;> (try split) <;> (try split) <;> simp
@[simp] theorem State.settleCommit_stage (s : State) : (s.settleCommit).stage = s.stage := by unfold State.settleCommit; split <;> (try split) <;> (try split) <;> simp
@[simp] theorem State.settleCommit_record (s : State) : (s.settleCommit).record = s.record := by unfold State.settleCommit; split <;> (try split) <;> (try split) <;> simp
@[simp] theorem State.settleCommit_pending (s : State) : (s.settleCommit).pending = s.pending := by unfold State.settleCommit; split <;> (try split) <;> (try split) <;> simp

/-! ### beginPeriod -/

@[simp] theorem State.beginPeriod_rstN (b : Bool) (s : State) : (s.beginPeriod b).rstN = s.rstN := by unfold State.beginPeriod; split <;> simp
@[simp] theorem State.beginPeriod_epochPin (b : Bool) (s : State) : (s.beginPeriod b).epochPin = s.epochPin := by unfold State.beginPeriod; split <;> simp
@[simp] theorem State.beginPeriod_epochTimer (b : Bool) (s : State) : (s.beginPeriod b).epochTimer = s.epochTimer := by unfold State.beginPeriod; split <;> simp
@[simp] theorem State.beginPeriod_sampleDiv (b : Bool) (s : State) : (s.beginPeriod b).sampleDiv = s.sampleDiv := by unfold State.beginPeriod; split <;> simp
@[simp] theorem State.beginPeriod_ports (b : Bool) (s : State) : (s.beginPeriod b).ports = s.ports := by unfold State.beginPeriod; split <;> simp
@[simp] theorem State.beginPeriod_heldVals (b : Bool) (s : State) : (s.beginPeriod b).heldVals = s.heldVals := by unfold State.beginPeriod; split <;> simp
@[simp] theorem State.beginPeriod_snap (b : Bool) (s : State) : (s.beginPeriod b).snap = s.snap := by unfold State.beginPeriod; split <;> simp
@[simp] theorem State.beginPeriod_env (b : Bool) (s : State) : (s.beginPeriod b).env = s.env := by unfold State.beginPeriod; split <;> simp
@[simp] theorem State.beginPeriod_envCopy (b : Bool) (s : State) : (s.beginPeriod b).envCopy = s.envCopy := by unfold State.beginPeriod; split <;> simp
@[simp] theorem State.beginPeriod_modeCtl (b : Bool) (s : State) : (s.beginPeriod b).modeCtl = s.modeCtl := by unfold State.beginPeriod; split <;> simp
@[simp] theorem State.beginPeriod_request (b : Bool) (s : State) : (s.beginPeriod b).request = s.request := by unfold State.beginPeriod; split <;> simp
@[simp] theorem State.beginPeriod_split (b : Bool) (s : State) : (s.beginPeriod b).split = s.split := by unfold State.beginPeriod; split <;> simp
@[simp] theorem State.beginPeriod_splitOut (b : Bool) (s : State) : (s.beginPeriod b).splitOut = s.splitOut := by unfold State.beginPeriod; split <;> simp
@[simp] theorem State.beginPeriod_record (b : Bool) (s : State) : (s.beginPeriod b).record = s.record := by unfold State.beginPeriod; split <;> simp
@[simp] theorem State.beginPeriod_pending (b : Bool) (s : State) : (s.beginPeriod b).pending = s.pending := by unfold State.beginPeriod; split <;> simp

/-! ### pselFalls -/

@[simp] theorem State.pselFalls_rstN (p : PortId) (s : State) : (s.pselFalls p).rstN = s.rstN := by unfold State.pselFalls; split <;> simp
@[simp] theorem State.pselFalls_spdPin (p : PortId) (s : State) : (s.pselFalls p).spdPin = s.spdPin := by unfold State.pselFalls; split <;> simp
@[simp] theorem State.pselFalls_epochPin (p : PortId) (s : State) : (s.pselFalls p).epochPin = s.epochPin := by unfold State.pselFalls; split <;> simp
@[simp] theorem State.pselFalls_epochTimer (p : PortId) (s : State) : (s.pselFalls p).epochTimer = s.epochTimer := by unfold State.pselFalls; split <;> simp
@[simp] theorem State.pselFalls_tmr (p : PortId) (s : State) : (s.pselFalls p).tmr = s.tmr := by unfold State.pselFalls; split <;> simp
@[simp] theorem State.pselFalls_sampleDiv (p : PortId) (s : State) : (s.pselFalls p).sampleDiv = s.sampleDiv := by unfold State.pselFalls; split <;> simp
@[simp] theorem State.pselFalls_src (p : PortId) (s : State) : (s.pselFalls p).src = s.src := by unfold State.pselFalls; split <;> simp
@[simp] theorem State.pselFalls_heldVals (p : PortId) (s : State) : (s.pselFalls p).heldVals = s.heldVals := by unfold State.pselFalls; split <;> simp
@[simp] theorem State.pselFalls_snap (p : PortId) (s : State) : (s.pselFalls p).snap = s.snap := by unfold State.pselFalls; split <;> simp
@[simp] theorem State.pselFalls_snapDone (p : PortId) (s : State) : (s.pselFalls p).snapDone = s.snapDone := by unfold State.pselFalls; split <;> simp
@[simp] theorem State.pselFalls_env (p : PortId) (s : State) : (s.pselFalls p).env = s.env := by unfold State.pselFalls; split <;> simp
@[simp] theorem State.pselFalls_envCopy (p : PortId) (s : State) : (s.pselFalls p).envCopy = s.envCopy := by unfold State.pselFalls; split <;> simp
@[simp] theorem State.pselFalls_spd (p : PortId) (s : State) : (s.pselFalls p).spd = s.spd := by unfold State.pselFalls; split <;> simp
@[simp] theorem State.pselFalls_modeCtl (p : PortId) (s : State) : (s.pselFalls p).modeCtl = s.modeCtl := by unfold State.pselFalls; split <;> simp
@[simp] theorem State.pselFalls_request (p : PortId) (s : State) : (s.pselFalls p).request = s.request := by unfold State.pselFalls; split <;> simp
@[simp] theorem State.pselFalls_seq (p : PortId) (s : State) : (s.pselFalls p).seq = s.seq := by unfold State.pselFalls; split <;> simp
@[simp] theorem State.pselFalls_split (p : PortId) (s : State) : (s.pselFalls p).split = s.split := by unfold State.pselFalls; split <;> simp
@[simp] theorem State.pselFalls_splitOut (p : PortId) (s : State) : (s.pselFalls p).splitOut = s.splitOut := by unfold State.pselFalls; split <;> simp
@[simp] theorem State.pselFalls_stage (p : PortId) (s : State) : (s.pselFalls p).stage = s.stage := by unfold State.pselFalls; split <;> simp
@[simp] theorem State.pselFalls_record (p : PortId) (s : State) : (s.pselFalls p).record = s.record := by unfold State.pselFalls; split <;> simp
@[simp] theorem State.pselFalls_cal (p : PortId) (s : State) : (s.pselFalls p).cal = s.cal := by unfold State.pselFalls; split <;> simp
@[simp] theorem State.pselFalls_ntc (p : PortId) (s : State) : (s.pselFalls p).ntc = s.ntc := by unfold State.pselFalls; split <;> simp
@[simp] theorem State.pselFalls_pending (p : PortId) (s : State) : (s.pselFalls p).pending = s.pending := by unfold State.pselFalls; split <;> simp

/-! ### refreshPage -/

@[simp] theorem State.refreshPage_rstN (p : PortId) (w : Word) (s : State) : (s.refreshPage p w).rstN = s.rstN := by unfold State.refreshPage; split <;> rfl
@[simp] theorem State.refreshPage_spdPin (p : PortId) (w : Word) (s : State) : (s.refreshPage p w).spdPin = s.spdPin := by unfold State.refreshPage; split <;> rfl
@[simp] theorem State.refreshPage_epochPin (p : PortId) (w : Word) (s : State) : (s.refreshPage p w).epochPin = s.epochPin := by unfold State.refreshPage; split <;> rfl
@[simp] theorem State.refreshPage_epochTimer (p : PortId) (w : Word) (s : State) : (s.refreshPage p w).epochTimer = s.epochTimer := by unfold State.refreshPage; split <;> rfl
@[simp] theorem State.refreshPage_tmr (p : PortId) (w : Word) (s : State) : (s.refreshPage p w).tmr = s.tmr := by unfold State.refreshPage; split <;> rfl
@[simp] theorem State.refreshPage_sampleDiv (p : PortId) (w : Word) (s : State) : (s.refreshPage p w).sampleDiv = s.sampleDiv := by unfold State.refreshPage; split <;> rfl
@[simp] theorem State.refreshPage_src (p : PortId) (w : Word) (s : State) : (s.refreshPage p w).src = s.src := by unfold State.refreshPage; split <;> rfl
@[simp] theorem State.refreshPage_heldVals (p : PortId) (w : Word) (s : State) : (s.refreshPage p w).heldVals = s.heldVals := by unfold State.refreshPage; split <;> rfl
@[simp] theorem State.refreshPage_snap (p : PortId) (w : Word) (s : State) : (s.refreshPage p w).snap = s.snap := by unfold State.refreshPage; split <;> rfl
@[simp] theorem State.refreshPage_snapDone (p : PortId) (w : Word) (s : State) : (s.refreshPage p w).snapDone = s.snapDone := by unfold State.refreshPage; split <;> rfl
@[simp] theorem State.refreshPage_env (p : PortId) (w : Word) (s : State) : (s.refreshPage p w).env = s.env := by unfold State.refreshPage; split <;> rfl
@[simp] theorem State.refreshPage_envCopy (p : PortId) (w : Word) (s : State) : (s.refreshPage p w).envCopy = s.envCopy := by unfold State.refreshPage; split <;> rfl
@[simp] theorem State.refreshPage_spd (p : PortId) (w : Word) (s : State) : (s.refreshPage p w).spd = s.spd := by unfold State.refreshPage; split <;> rfl
@[simp] theorem State.refreshPage_modeCtl (p : PortId) (w : Word) (s : State) : (s.refreshPage p w).modeCtl = s.modeCtl := by unfold State.refreshPage; split <;> rfl
@[simp] theorem State.refreshPage_request (p : PortId) (w : Word) (s : State) : (s.refreshPage p w).request = s.request := by unfold State.refreshPage; split <;> rfl
@[simp] theorem State.refreshPage_seq (p : PortId) (w : Word) (s : State) : (s.refreshPage p w).seq = s.seq := by unfold State.refreshPage; split <;> rfl
@[simp] theorem State.refreshPage_split (p : PortId) (w : Word) (s : State) : (s.refreshPage p w).split = s.split := by unfold State.refreshPage; split <;> rfl
@[simp] theorem State.refreshPage_splitOut (p : PortId) (w : Word) (s : State) : (s.refreshPage p w).splitOut = s.splitOut := by unfold State.refreshPage; split <;> rfl
@[simp] theorem State.refreshPage_stage (p : PortId) (w : Word) (s : State) : (s.refreshPage p w).stage = s.stage := by unfold State.refreshPage; split <;> rfl
@[simp] theorem State.refreshPage_record (p : PortId) (w : Word) (s : State) : (s.refreshPage p w).record = s.record := by unfold State.refreshPage; split <;> rfl
@[simp] theorem State.refreshPage_cal (p : PortId) (w : Word) (s : State) : (s.refreshPage p w).cal = s.cal := by unfold State.refreshPage; split <;> rfl
@[simp] theorem State.refreshPage_ntc (p : PortId) (w : Word) (s : State) : (s.refreshPage p w).ntc = s.ntc := by unfold State.refreshPage; split <;> rfl
@[simp] theorem State.refreshPage_pending (p : PortId) (w : Word) (s : State) : (s.refreshPage p w).pending = s.pending := by unfold State.refreshPage; split <;> rfl

end Sys2Proof.Machine
end

