-- ==== Sys2Proof/Laws/Ops.lean ====
section
/-! SUPPORT. What the containers, the notice operations and the port operations do, each said once. -/

namespace Sys2Proof

/-! ### Entries of a table -/

@[simp] theorem PerPort.get_set_self {α : Type} (t : PerPort α) (p : PortId) (a : α) : (t.set p a).get p = a := by
  cases p <;> rfl

theorem PerPort.get_set_ne {α : Type} (t : PerPort α) {p q : PortId} (a : α) (h : q ≠ p) : (t.set p a).get q = t.get q := by
  cases p <;> cases q <;> first | rfl | exact absurd rfl h

theorem PerPort.get_set {α : Type} (t : PerPort α) (p q : PortId) (a : α) :
    (t.set p a).get q = if q = p then a else t.get q := by
  cases p <;> cases q <;> rfl

@[simp] theorem PerPort.get_all {α : Type} (a : α) (p : PortId) : (PerPort.all a).get p = a := by cases p <;> rfl

@[simp] theorem PerPort.get_zipWith {α β γ : Type} (f : α → β → γ) (t : PerPort α) (u : PerPort β) (p : PortId) :
    (PerPort.zipWith f t u).get p = f (t.get p) (u.get p) := by cases p <;> rfl

theorem PerPort.ext_get {α : Type} {t u : PerPort α} (h : ∀ p, t.get p = u.get p) : t = u := by
  have h0 := h .p0; have h1 := h .p1; have h2 := h .p2; have h3 := h .p3
  cases t; cases u; simp_all [PerPort.get]

@[simp] theorem PerPort.set_get_self {α : Type} (t : PerPort α) (p : PortId) : t.set p (t.get p) = t := by cases p <;> rfl

@[simp] theorem PerPort.set_set {α : Type} (t : PerPort α) (p : PortId) (a b : α) : (t.set p a).set p b = t.set p b := by
  cases p <;> rfl

@[simp] theorem PerRole.get_set_self {α : Type} (t : PerRole α) (r : Role) (a : α) : (t.set r a).get r = a := by
  cases r <;> rfl

theorem PerRole.get_set_ne {α : Type} (t : PerRole α) {r q : Role} (a : α) (h : q ≠ r) : (t.set r a).get q = t.get q := by
  cases r <;> cases q <;> first | rfl | exact absurd rfl h

theorem PerRole.get_set {α : Type} (t : PerRole α) (r q : Role) (a : α) :
    (t.set r a).get q = if q = r then a else t.get q := by
  cases r <;> cases q <;> rfl

@[simp] theorem PerRole.get_all {α : Type} (a : α) (r : Role) : (PerRole.all a).get r = a := by cases r <;> rfl

@[simp] theorem PerRole.get_map {α β : Type} (f : α → β) (t : PerRole α) (r : Role) : (t.map f).get r = f (t.get r) := by
  cases r <;> rfl

theorem PerRole.ext_get {α : Type} {t u : PerRole α} (h : ∀ r, t.get r = u.get r) : t = u := by
  have h0 := h .vehicle; have h1 := h .engine; have h2 := h .motor; have h3 := h .battery
  cases t; cases u; simp_all [PerRole.get]

@[simp] theorem PerRole.set_get_self {α : Type} (t : PerRole α) (r : Role) : t.set r (t.get r) = t := by cases r <;> rfl

@[simp] theorem PerRole.set_set {α : Type} (t : PerRole α) (r : Role) (a b : α) : (t.set r a).set r b = t.set r b := by
  cases r <;> rfl

theorem PerRole.set_comm {α : Type} (t : PerRole α) {r q : Role} (a b : α) (h : r ≠ q) :
    (t.set r a).set q b = (t.set q b).set r a := by
  cases r <;> cases q <;> first | rfl | exact absurd rfl h

end Sys2Proof

namespace Sys2Proof.Machine

/-! ### Notices -/

theorem NoticeKind.code_lt (k : NoticeKind) : k.code < 16 := by cases k <;> decide

theorem NoticeKind.code_injective {k j : NoticeKind} (h : k.code = j.code) : k = j := by
  cases k <;> cases j <;> first | rfl | exact absurd h (by decide)

theorem NoticeKind.getLsbD_bit (k : NoticeKind) (i : Nat) : k.bit.getLsbD i = decide (i = k.code) := by
  by_cases hi : i < 16
  · cases k <;> simp only [NoticeKind.bit, NoticeKind.code] <;> interval_cases i <;> rfl
  · have := k.code_lt
    have hk : ¬ i = k.code := by omega
    simp [BitVec.getLsbD_of_ge _ _ (Nat.le_of_not_lt hi), hk]

/-- A raising: the kind joins the raw set, and the repeat set if it was raw (R163). -/
theorem Notices.raise_eq (k : NoticeKind) (n : Notices) :
    n.raise k = ⟨n.raw ||| k.bit, n.rep ||| (n.raw &&& k.bit), n.enable⟩ := by
  obtain ⟨raw, rep, en⟩ := n
  unfold Notices.raise
  have bits (a b : Word) (h : ∀ i, a.getLsbD i = b.getLsbD i) : a = b := BitVec.eq_of_getLsbD_eq fun i _ => h i
  split <;> rename_i h <;> rw [Notices.mk.injEq] <;> refine ⟨bits _ _ fun i => ?_, bits _ _ fun i => ?_, rfl⟩ <;>
    simp only [BitVec.getLsbD_or, BitVec.getLsbD_and, NoticeKind.getLsbD_bit] <;>
    (by_cases e : i = k.code <;> simp_all)

@[simp] theorem Notices.raise_enable (k : NoticeKind) (n : Notices) : (n.raise k).enable = n.enable := by
  rw [Notices.raise_eq]

/-- Two raisings leave the same sets in either order (R163). -/
theorem Notices.raise_comm (k j : NoticeKind) (n : Notices) : (n.raise k).raise j = (n.raise j).raise k := by
  simp only [Notices.raise_eq, Notices.mk.injEq, and_true]
  refine ⟨?_, ?_⟩ <;> (refine BitVec.eq_of_getLsbD_eq fun i _ => ?_) <;>
    simp only [BitVec.getLsbD_or, BitVec.getLsbD_and, NoticeKind.getLsbD_bit] <;>
    (by_cases e : i = k.code <;> by_cases e' : i = j.code <;> simp [e, e'] <;> simp_all [Bool.or_comm])

theorem Notices.contained_iff (n : Notices) : n.Contained ↔ ∀ i, n.rep.getLsbD i = true → n.raw.getLsbD i = true := by
  unfold Notices.Contained
  constructor
  · intro h i hr
    by_cases hi : i < 16
    · have hb : (n.rep &&& ~~~n.raw).getLsbD i = false := by rw [h]; simp
      simpa [hr, hi] using hb
    · simp [BitVec.getLsbD_of_ge _ _ (Nat.le_of_not_lt hi)] at hr
  · intro h
    refine BitVec.eq_of_getLsbD_eq fun i hi => ?_
    have := h i
    cases hr : n.rep.getLsbD i <;> simp_all

/-- The repeat set stays within the raw set (R162, Note 1). -/
theorem Notices.raise_contained (k : NoticeKind) (n : Notices) (h : n.Contained) : (n.raise k).Contained := by
  rw [Notices.contained_iff] at *
  intro i
  have := h i
  simp only [Notices.raise_eq, BitVec.getLsbD_or, BitVec.getLsbD_and, Bool.or_eq_true, Bool.and_eq_true]
  rintro (g | g)
  · exact .inl (this g)
  · exact .inl g.1

theorem Notices.clear_contained (m : Word) (n : Notices) (h : n.Contained) : (n.clear m).Contained := by
  rw [Notices.contained_iff] at *
  intro i
  have := h i
  simp only [Notices.clear, BitVec.getLsbD_and, Bool.and_eq_true]
  exact fun g => ⟨this g.1, g.2⟩

/-- A broadcast raises its kind on every enabled port and on no other (R164). -/
theorem State.broadcast_ntc (k : NoticeKind) (s : State) (q : PortId) :
    (s.broadcast k).ntc.get q = if (s.ports.get q).disabled then s.ntc.get q else (s.ntc.get q).raise k := by
  simp [State.broadcast]

theorem State.broadcastIf_ntc (b : Bool) (k : NoticeKind) (s : State) (q : PortId) :
    (s.broadcastIf b k).ntc.get q =
      if b = true ∧ (s.ports.get q).disabled = false then (s.ntc.get q).raise k else s.ntc.get q := by
  cases b
  · simp [State.broadcastIf]
  · simp only [State.broadcastIf, if_true, State.broadcast_ntc, true_and]
    cases (s.ports.get q).disabled <;> simp

/-- Several broadcasts, one after another. -/
theorem State.broadcastAll_raised (l : List NoticeKind) (s : State) : Raised l s (l.foldl (fun t k => t.broadcast k) s) := by
  induction l generalizing s with
  | nil => intro q; simp
  | cons k l ih =>
    intro q
    have h := ih (s.broadcast k) q
    rw [List.foldl_cons, h, State.broadcast_ntc]
    simp only [State.broadcast_ports, List.foldl_cons]
    by_cases hd : (s.ports.get q).disabled = true <;> simp [hd]

theorem State.broadcast_raised (k : NoticeKind) (s : State) : Raised [k] s (s.broadcast k) := State.broadcastAll_raised [k] s

theorem State.broadcastIf_raised (b : Bool) (k : NoticeKind) (s : State) :
    Raised (if b then [k] else []) s (s.broadcastIf b k) := by
  cases b
  · intro q; simp [State.broadcastIf]
  · exact State.broadcast_raised k s

theorem State.raiseOn_raisedOn (p : PortId) (k : NoticeKind) (s : State) : RaisedOn p [k] s (s.raiseOn p k) := by
  refine ⟨by simp [State.raiseOn], fun q hq => by simp [State.raiseOn, PerPort.get_set_ne _ _ hq]⟩

theorem Raised.refl (s t : State) (h : t.ntc = s.ntc) : Raised [] s t := by intro q; simp [h]

/-- Raisings follow one another. -/
theorem Raised.trans {l m : List NoticeKind} {s t u : State} (h : Raised l s t) (hp : t.ports = s.ports) (g : Raised m t u) :
    Raised (l ++ m) s u := by
  intro q
  rw [g q, h q, hp, List.foldl_append]
  by_cases hd : (s.ports.get q).disabled = true <;> simp [hd]

/-- What a run of raisings leaves does not depend on the order. -/
theorem Notices.raise_foldl_comm (k : NoticeKind) (l : List NoticeKind) (n : Notices) :
    l.foldl (fun n k => n.raise k) (n.raise k) = (l.foldl (fun n k => n.raise k) n).raise k := by
  induction l generalizing n with
  | nil => rfl
  | cons j l ih => rw [List.foldl_cons, List.foldl_cons, Notices.raise_comm, ih]

/-! ### Ports -/

@[simp] theorem State.setPort_ports_get (p : PortId) (q : Port) (s : State) (i : PortId) :
    (s.setPort p q).ports.get i = if i = p then q else s.ports.get i := by simp [State.setPort, PerPort.get_set]

@[simp] theorem State.answer_ports_get (p : PortId) (r : Response) (s : State) (i : PortId) :
    (s.answer p r).ports.get i = if i = p then { s.ports.get p with held := r } else s.ports.get i := by
  simp [State.answer]

@[simp] theorem State.frameEnds_ports_get (p : PortId) (l : List Bool) (s : State) (i : PortId) :
    (s.frameEnds p l).ports.get i =
      if i = p then
        { s.ports.get p with inFrame := false, rx := l.take 88, rxCount := l.length, txPos := min 88 l.length
                             sent := shiftedOut (s.ports.get p).held l.length }
      else s.ports.get i := by
  simp [State.frameEnds]

end Sys2Proof.Machine
end

