-- ==== Sys2Proof/Laws/Link.lean ====
section
/-! SUPPORT. What a request leaves as it was, block by block, and what a completed frame makes of its port: the lemmas that later
proofs cite instead of unfolding `serve`, `admitFrame` and `complete`. -/

namespace Sys2Proof.Machine

/-- Two states with the same fields are the same state. -/
theorem State.ext_fields {s t : State}
    (h_rstN : s.rstN = t.rstN)
    (h_spdPin : s.spdPin = t.spdPin)
    (h_epochPin : s.epochPin = t.epochPin)
    (h_epochTimer : s.epochTimer = t.epochTimer)
    (h_tmr : s.tmr = t.tmr)
    (h_sampleDiv : s.sampleDiv = t.sampleDiv)
    (h_ports : s.ports = t.ports)
    (h_src : s.src = t.src)
    (h_heldVals : s.heldVals = t.heldVals)
    (h_snap : s.snap = t.snap)
    (h_snapDone : s.snapDone = t.snapDone)
    (h_env : s.env = t.env)
    (h_envCopy : s.envCopy = t.envCopy)
    (h_spd : s.spd = t.spd)
    (h_modeCtl : s.modeCtl = t.modeCtl)
    (h_request : s.request = t.request)
    (h_seq : s.seq = t.seq)
    (h_split : s.split = t.split)
    (h_splitOut : s.splitOut = t.splitOut)
    (h_stage : s.stage = t.stage)
    (h_record : s.record = t.record)
    (h_cal : s.cal = t.cal)
    (h_ntc : s.ntc = t.ntc)
    (h_pending : s.pending = t.pending) : s = t := by
  cases s; cases t; simp_all

/-! ### What serving a report or a DECLARE keeps -/

@[simp] theorem serveReport_rstN (r : Role) (w : Words) (s : State) : (serveReport r w s).state.rstN = s.rstN := by
  unfold serveReport; split <;> simp [Served.refuse]
@[simp] theorem serveReport_spdPin (r : Role) (w : Words) (s : State) : (serveReport r w s).state.spdPin = s.spdPin := by
  unfold serveReport; split <;> simp [Served.refuse]
@[simp] theorem serveReport_epochPin (r : Role) (w : Words) (s : State) : (serveReport r w s).state.epochPin = s.epochPin := by
  unfold serveReport; split <;> simp [Served.refuse]
@[simp] theorem serveReport_epochTimer (r : Role) (w : Words) (s : State) : (serveReport r w s).state.epochTimer = s.epochTimer := by
  unfold serveReport; split <;> simp [Served.refuse]
@[simp] theorem serveReport_tmr (r : Role) (w : Words) (s : State) : (serveReport r w s).state.tmr = s.tmr := by
  unfold serveReport; split <;> simp [Served.refuse]
@[simp] theorem serveReport_sampleDiv (r : Role) (w : Words) (s : State) : (serveReport r w s).state.sampleDiv = s.sampleDiv := by
  unfold serveReport; split <;> simp [Served.refuse]
@[simp] theorem serveReport_ports (r : Role) (w : Words) (s : State) : (serveReport r w s).state.ports = s.ports := by
  unfold serveReport; split <;> simp [Served.refuse]
@[simp] theorem serveReport_env (r : Role) (w : Words) (s : State) : (serveReport r w s).state.env = s.env := by
  unfold serveReport; split <;> simp [Served.refuse]
@[simp] theorem serveReport_spd (r : Role) (w : Words) (s : State) : (serveReport r w s).state.spd = s.spd := by
  unfold serveReport; split <;> simp [Served.refuse]
@[simp] theorem serveReport_modeCtl (r : Role) (w : Words) (s : State) : (serveReport r w s).state.modeCtl = s.modeCtl := by
  unfold serveReport; split <;> simp [Served.refuse]
@[simp] theorem serveReport_request (r : Role) (w : Words) (s : State) : (serveReport r w s).state.request = s.request := by
  unfold serveReport; split <;> simp [Served.refuse]
@[simp] theorem serveReport_seq (r : Role) (w : Words) (s : State) : (serveReport r w s).state.seq = s.seq := by
  unfold serveReport; split <;> simp [Served.refuse]
@[simp] theorem serveReport_split (r : Role) (w : Words) (s : State) : (serveReport r w s).state.split = s.split := by
  unfold serveReport; split <;> simp [Served.refuse]
@[simp] theorem serveReport_splitOut (r : Role) (w : Words) (s : State) : (serveReport r w s).state.splitOut = s.splitOut := by
  unfold serveReport; split <;> simp [Served.refuse]
@[simp] theorem serveReport_stage (r : Role) (w : Words) (s : State) : (serveReport r w s).state.stage = s.stage := by
  unfold serveReport; split <;> simp [Served.refuse]
@[simp] theorem serveReport_record (r : Role) (w : Words) (s : State) : (serveReport r w s).state.record = s.record := by
  unfold serveReport; split <;> simp [Served.refuse]
@[simp] theorem serveReport_pending (r : Role) (w : Words) (s : State) : (serveReport r w s).state.pending = s.pending := by
  unfold serveReport; split <;> simp [Served.refuse]
@[simp] theorem serveDeclare_rstN (r : Role) (w : Words) (s : State) : (serveDeclare r w s).state.rstN = s.rstN := by
  unfold serveDeclare; split <;> simp
@[simp] theorem serveDeclare_spdPin (r : Role) (w : Words) (s : State) : (serveDeclare r w s).state.spdPin = s.spdPin := by
  unfold serveDeclare; split <;> simp
@[simp] theorem serveDeclare_epochPin (r : Role) (w : Words) (s : State) : (serveDeclare r w s).state.epochPin = s.epochPin := by
  unfold serveDeclare; split <;> simp
@[simp] theorem serveDeclare_epochTimer (r : Role) (w : Words) (s : State) : (serveDeclare r w s).state.epochTimer = s.epochTimer := by
  unfold serveDeclare; split <;> simp
@[simp] theorem serveDeclare_tmr (r : Role) (w : Words) (s : State) : (serveDeclare r w s).state.tmr = s.tmr := by
  unfold serveDeclare; split <;> simp
@[simp] theorem serveDeclare_sampleDiv (r : Role) (w : Words) (s : State) : (serveDeclare r w s).state.sampleDiv = s.sampleDiv := by
  unfold serveDeclare; split <;> simp
@[simp] theorem serveDeclare_ports (r : Role) (w : Words) (s : State) : (serveDeclare r w s).state.ports = s.ports := by
  unfold serveDeclare; split <;> simp
@[simp] theorem serveDeclare_spd (r : Role) (w : Words) (s : State) : (serveDeclare r w s).state.spd = s.spd := by
  unfold serveDeclare; split <;> simp
@[simp] theorem serveDeclare_modeCtl (r : Role) (w : Words) (s : State) : (serveDeclare r w s).state.modeCtl = s.modeCtl := by
  unfold serveDeclare; split <;> simp
@[simp] theorem serveDeclare_request (r : Role) (w : Words) (s : State) : (serveDeclare r w s).state.request = s.request := by
  unfold serveDeclare; split <;> simp
@[simp] theorem serveDeclare_seq (r : Role) (w : Words) (s : State) : (serveDeclare r w s).state.seq = s.seq := by
  unfold serveDeclare; split <;> simp
@[simp] theorem serveDeclare_split (r : Role) (w : Words) (s : State) : (serveDeclare r w s).state.split = s.split := by
  unfold serveDeclare; split <;> simp
@[simp] theorem serveDeclare_splitOut (r : Role) (w : Words) (s : State) : (serveDeclare r w s).state.splitOut = s.splitOut := by
  unfold serveDeclare; split <;> simp
@[simp] theorem serveDeclare_stage (r : Role) (w : Words) (s : State) : (serveDeclare r w s).state.stage = s.stage := by
  unfold serveDeclare; split <;> simp
@[simp] theorem serveDeclare_record (r : Role) (w : Words) (s : State) : (serveDeclare r w s).state.record = s.record := by
  unfold serveDeclare; split <;> simp
@[simp] theorem serveDeclare_pending (r : Role) (w : Words) (s : State) : (serveDeclare r w s).state.pending = s.pending := by
  unfold serveDeclare; split <;> simp

/-- A calibration request changes the claim slot at most. -/
theorem serveClaim_state (p : PortId) (s : State) : (serveClaim p s).state = s ∨ ∃ c, (serveClaim p s).state = s.withClaim c := by
  unfold serveClaim; split
  · exact .inr ⟨_, rfl⟩
  · split <;> exact .inl rfl

theorem serveRelease_state (p : PortId) (s : State) :
    (serveRelease p s).state = s ∨ (serveRelease p s).state = s.withClaim none := by
  unfold serveRelease
  (repeat' split) <;> first | exact .inl rfl | exact .inr rfl

theorem serveLoadRow_state (p : PortId) (w : Words) (s : State) :
    (serveLoadRow p w s).state = s ∨ ∃ c, (serveLoadRow p w s).state = s.withClaim c := by
  unfold serveLoadRow
  (repeat' split) <;> first | exact .inl rfl | exact .inr ⟨_, rfl⟩

theorem serveCommit_state (p : PortId) (s : State) :
    (serveCommit p s).state = s ∨ ∃ c, (serveCommit p s).state = s.withClaim c := by
  unfold serveCommit
  (repeat' split) <;> first | exact .inl rfl | exact .inr ⟨_, rfl⟩

/-- A read changes nothing but, for page 0 of READ_SPLIT, the port's page snapshot. -/
@[simp] theorem serveReadRow_state (p : PortId) (w : Words) (s : State) : (serveReadRow p w s).state = s := by
  unfold serveReadRow readRowOf
  (repeat' split) <;> rfl

@[simp] theorem serveReadStatus_state (w : Words) (s : State) : (serveReadStatus w s).state = s := by
  unfold serveReadStatus; split <;> rfl

theorem serveReadSplit_state (p : PortId) (w : Words) (s : State) :
    (serveReadSplit p w s).state = s ∨ (serveReadSplit p w s).state = s.refreshPage p w.w0 := by
  unfold serveReadSplit; dsimp only; split
  · exact .inr rfl
  · exact .inl rfl

/-! ### What any request keeps -/

@[simp] theorem serve_rstN (k : FrameKind) (p : PortId) (w : Words) (s : State) : (serve k p w s).state.rstN = s.rstN := by
  cases k
  case claim => rcases serveClaim_state p s with h | ⟨c, h⟩ <;> simp [serve, h]
  case release => rcases serveRelease_state p s with h | h <;> simp [serve, h]
  case loadRow => rcases serveLoadRow_state p w s with h | ⟨c, h⟩ <;> simp [serve, h]
  case commit => rcases serveCommit_state p s with h | ⟨c, h⟩ <;> simp [serve, h]
  case readSplit => rcases serveReadSplit_state p w s with h | h <;> simp [serve, h]
  all_goals first | rfl | simp [serve]
@[simp] theorem serve_spdPin (k : FrameKind) (p : PortId) (w : Words) (s : State) : (serve k p w s).state.spdPin = s.spdPin := by
  cases k
  case claim => rcases serveClaim_state p s with h | ⟨c, h⟩ <;> simp [serve, h]
  case release => rcases serveRelease_state p s with h | h <;> simp [serve, h]
  case loadRow => rcases serveLoadRow_state p w s with h | ⟨c, h⟩ <;> simp [serve, h]
  case commit => rcases serveCommit_state p s with h | ⟨c, h⟩ <;> simp [serve, h]
  case readSplit => rcases serveReadSplit_state p w s with h | h <;> simp [serve, h]
  all_goals first | rfl | simp [serve]
@[simp] theorem serve_epochPin (k : FrameKind) (p : PortId) (w : Words) (s : State) : (serve k p w s).state.epochPin = s.epochPin := by
  cases k
  case claim => rcases serveClaim_state p s with h | ⟨c, h⟩ <;> simp [serve, h]
  case release => rcases serveRelease_state p s with h | h <;> simp [serve, h]
  case loadRow => rcases serveLoadRow_state p w s with h | ⟨c, h⟩ <;> simp [serve, h]
  case commit => rcases serveCommit_state p s with h | ⟨c, h⟩ <;> simp [serve, h]
  case readSplit => rcases serveReadSplit_state p w s with h | h <;> simp [serve, h]
  all_goals first | rfl | simp [serve]
@[simp] theorem serve_epochTimer (k : FrameKind) (p : PortId) (w : Words) (s : State) : (serve k p w s).state.epochTimer = s.epochTimer := by
  cases k
  case claim => rcases serveClaim_state p s with h | ⟨c, h⟩ <;> simp [serve, h]
  case release => rcases serveRelease_state p s with h | h <;> simp [serve, h]
  case loadRow => rcases serveLoadRow_state p w s with h | ⟨c, h⟩ <;> simp [serve, h]
  case commit => rcases serveCommit_state p s with h | ⟨c, h⟩ <;> simp [serve, h]
  case readSplit => rcases serveReadSplit_state p w s with h | h <;> simp [serve, h]
  all_goals first | rfl | simp [serve]
@[simp] theorem serve_tmr (k : FrameKind) (p : PortId) (w : Words) (s : State) : (serve k p w s).state.tmr = s.tmr := by
  cases k
  case claim => rcases serveClaim_state p s with h | ⟨c, h⟩ <;> simp [serve, h]
  case release => rcases serveRelease_state p s with h | h <;> simp [serve, h]
  case loadRow => rcases serveLoadRow_state p w s with h | ⟨c, h⟩ <;> simp [serve, h]
  case commit => rcases serveCommit_state p s with h | ⟨c, h⟩ <;> simp [serve, h]
  case readSplit => rcases serveReadSplit_state p w s with h | h <;> simp [serve, h]
  all_goals first | rfl | simp [serve]
@[simp] theorem serve_sampleDiv (k : FrameKind) (p : PortId) (w : Words) (s : State) : (serve k p w s).state.sampleDiv = s.sampleDiv := by
  cases k
  case claim => rcases serveClaim_state p s with h | ⟨c, h⟩ <;> simp [serve, h]
  case release => rcases serveRelease_state p s with h | h <;> simp [serve, h]
  case loadRow => rcases serveLoadRow_state p w s with h | ⟨c, h⟩ <;> simp [serve, h]
  case commit => rcases serveCommit_state p s with h | ⟨c, h⟩ <;> simp [serve, h]
  case readSplit => rcases serveReadSplit_state p w s with h | h <;> simp [serve, h]
  all_goals first | rfl | simp [serve]
@[simp] theorem serve_spd (k : FrameKind) (p : PortId) (w : Words) (s : State) : (serve k p w s).state.spd = s.spd := by
  cases k
  case claim => rcases serveClaim_state p s with h | ⟨c, h⟩ <;> simp [serve, h]
  case release => rcases serveRelease_state p s with h | h <;> simp [serve, h]
  case loadRow => rcases serveLoadRow_state p w s with h | ⟨c, h⟩ <;> simp [serve, h]
  case commit => rcases serveCommit_state p s with h | ⟨c, h⟩ <;> simp [serve, h]
  case readSplit => rcases serveReadSplit_state p w s with h | h <;> simp [serve, h]
  all_goals first | rfl | simp [serve]
@[simp] theorem serve_modeCtl (k : FrameKind) (p : PortId) (w : Words) (s : State) : (serve k p w s).state.modeCtl = s.modeCtl := by
  cases k
  case claim => rcases serveClaim_state p s with h | ⟨c, h⟩ <;> simp [serve, h]
  case release => rcases serveRelease_state p s with h | h <;> simp [serve, h]
  case loadRow => rcases serveLoadRow_state p w s with h | ⟨c, h⟩ <;> simp [serve, h]
  case commit => rcases serveCommit_state p s with h | ⟨c, h⟩ <;> simp [serve, h]
  case readSplit => rcases serveReadSplit_state p w s with h | h <;> simp [serve, h]
  all_goals first | rfl | simp [serve]
@[simp] theorem serve_request (k : FrameKind) (p : PortId) (w : Words) (s : State) : (serve k p w s).state.request = s.request := by
  cases k
  case claim => rcases serveClaim_state p s with h | ⟨c, h⟩ <;> simp [serve, h]
  case release => rcases serveRelease_state p s with h | h <;> simp [serve, h]
  case loadRow => rcases serveLoadRow_state p w s with h | ⟨c, h⟩ <;> simp [serve, h]
  case commit => rcases serveCommit_state p s with h | ⟨c, h⟩ <;> simp [serve, h]
  case readSplit => rcases serveReadSplit_state p w s with h | h <;> simp [serve, h]
  all_goals first | rfl | simp [serve]
@[simp] theorem serve_seq (k : FrameKind) (p : PortId) (w : Words) (s : State) : (serve k p w s).state.seq = s.seq := by
  cases k
  case claim => rcases serveClaim_state p s with h | ⟨c, h⟩ <;> simp [serve, h]
  case release => rcases serveRelease_state p s with h | h <;> simp [serve, h]
  case loadRow => rcases serveLoadRow_state p w s with h | ⟨c, h⟩ <;> simp [serve, h]
  case commit => rcases serveCommit_state p s with h | ⟨c, h⟩ <;> simp [serve, h]
  case readSplit => rcases serveReadSplit_state p w s with h | h <;> simp [serve, h]
  all_goals first | rfl | simp [serve]
@[simp] theorem serve_split (k : FrameKind) (p : PortId) (w : Words) (s : State) : (serve k p w s).state.split = s.split := by
  cases k
  case claim => rcases serveClaim_state p s with h | ⟨c, h⟩ <;> simp [serve, h]
  case release => rcases serveRelease_state p s with h | h <;> simp [serve, h]
  case loadRow => rcases serveLoadRow_state p w s with h | ⟨c, h⟩ <;> simp [serve, h]
  case commit => rcases serveCommit_state p s with h | ⟨c, h⟩ <;> simp [serve, h]
  case readSplit => rcases serveReadSplit_state p w s with h | h <;> simp [serve, h]
  all_goals first | rfl | simp [serve]
@[simp] theorem serve_splitOut (k : FrameKind) (p : PortId) (w : Words) (s : State) : (serve k p w s).state.splitOut = s.splitOut := by
  cases k
  case claim => rcases serveClaim_state p s with h | ⟨c, h⟩ <;> simp [serve, h]
  case release => rcases serveRelease_state p s with h | h <;> simp [serve, h]
  case loadRow => rcases serveLoadRow_state p w s with h | ⟨c, h⟩ <;> simp [serve, h]
  case commit => rcases serveCommit_state p s with h | ⟨c, h⟩ <;> simp [serve, h]
  case readSplit => rcases serveReadSplit_state p w s with h | h <;> simp [serve, h]
  all_goals first | rfl | simp [serve]
@[simp] theorem serve_stage (k : FrameKind) (p : PortId) (w : Words) (s : State) : (serve k p w s).state.stage = s.stage := by
  cases k
  case claim => rcases serveClaim_state p s with h | ⟨c, h⟩ <;> simp [serve, h]
  case release => rcases serveRelease_state p s with h | h <;> simp [serve, h]
  case loadRow => rcases serveLoadRow_state p w s with h | ⟨c, h⟩ <;> simp [serve, h]
  case commit => rcases serveCommit_state p s with h | ⟨c, h⟩ <;> simp [serve, h]
  case readSplit => rcases serveReadSplit_state p w s with h | h <;> simp [serve, h]
  all_goals first | rfl | simp [serve]
@[simp] theorem serve_record (k : FrameKind) (p : PortId) (w : Words) (s : State) : (serve k p w s).state.record = s.record := by
  cases k
  case claim => rcases serveClaim_state p s with h | ⟨c, h⟩ <;> simp [serve, h]
  case release => rcases serveRelease_state p s with h | h <;> simp [serve, h]
  case loadRow => rcases serveLoadRow_state p w s with h | ⟨c, h⟩ <;> simp [serve, h]
  case commit => rcases serveCommit_state p s with h | ⟨c, h⟩ <;> simp [serve, h]
  case readSplit => rcases serveReadSplit_state p w s with h | h <;> simp [serve, h]
  all_goals first | rfl | simp [serve]
@[simp] theorem serve_pending (k : FrameKind) (p : PortId) (w : Words) (s : State) : (serve k p w s).state.pending = s.pending := by
  cases k
  case claim => rcases serveClaim_state p s with h | ⟨c, h⟩ <;> simp [serve, h]
  case release => rcases serveRelease_state p s with h | h <;> simp [serve, h]
  case loadRow => rcases serveLoadRow_state p w s with h | ⟨c, h⟩ <;> simp [serve, h]
  case commit => rcases serveCommit_state p s with h | ⟨c, h⟩ <;> simp [serve, h]
  case readSplit => rcases serveReadSplit_state p w s with h | h <;> simp [serve, h]
  all_goals first | rfl | simp [serve]

/-! ### What a completed frame keeps -/

@[simp] theorem State.admit_rstN (k : FrameKind) (p : PortId) (tag : Byte) (w : Words) (s : State) : (s.admitFrame k p tag w).rstN = s.rstN := by
  unfold State.admitFrame; dsimp only; (repeat' split) <;> simp
@[simp] theorem State.admit_spdPin (k : FrameKind) (p : PortId) (tag : Byte) (w : Words) (s : State) : (s.admitFrame k p tag w).spdPin = s.spdPin := by
  unfold State.admitFrame; dsimp only; (repeat' split) <;> simp
@[simp] theorem State.admit_epochPin (k : FrameKind) (p : PortId) (tag : Byte) (w : Words) (s : State) : (s.admitFrame k p tag w).epochPin = s.epochPin := by
  unfold State.admitFrame; dsimp only; (repeat' split) <;> simp
@[simp] theorem State.admit_epochTimer (k : FrameKind) (p : PortId) (tag : Byte) (w : Words) (s : State) : (s.admitFrame k p tag w).epochTimer = s.epochTimer := by
  unfold State.admitFrame; dsimp only; (repeat' split) <;> simp
@[simp] theorem State.admit_tmr (k : FrameKind) (p : PortId) (tag : Byte) (w : Words) (s : State) : (s.admitFrame k p tag w).tmr = s.tmr := by
  unfold State.admitFrame; dsimp only; (repeat' split) <;> simp
@[simp] theorem State.admit_sampleDiv (k : FrameKind) (p : PortId) (tag : Byte) (w : Words) (s : State) : (s.admitFrame k p tag w).sampleDiv = s.sampleDiv := by
  unfold State.admitFrame; dsimp only; (repeat' split) <;> simp
@[simp] theorem State.admit_spd (k : FrameKind) (p : PortId) (tag : Byte) (w : Words) (s : State) : (s.admitFrame k p tag w).spd = s.spd := by
  unfold State.admitFrame; dsimp only; (repeat' split) <;> simp
@[simp] theorem State.admit_modeCtl (k : FrameKind) (p : PortId) (tag : Byte) (w : Words) (s : State) : (s.admitFrame k p tag w).modeCtl = s.modeCtl := by
  unfold State.admitFrame; dsimp only; (repeat' split) <;> simp
@[simp] theorem State.admit_request (k : FrameKind) (p : PortId) (tag : Byte) (w : Words) (s : State) : (s.admitFrame k p tag w).request = s.request := by
  unfold State.admitFrame; dsimp only; (repeat' split) <;> simp
@[simp] theorem State.admit_seq (k : FrameKind) (p : PortId) (tag : Byte) (w : Words) (s : State) : (s.admitFrame k p tag w).seq = s.seq := by
  unfold State.admitFrame; dsimp only; (repeat' split) <;> simp
@[simp] theorem State.admit_split (k : FrameKind) (p : PortId) (tag : Byte) (w : Words) (s : State) : (s.admitFrame k p tag w).split = s.split := by
  unfold State.admitFrame; dsimp only; (repeat' split) <;> simp
@[simp] theorem State.admit_splitOut (k : FrameKind) (p : PortId) (tag : Byte) (w : Words) (s : State) : (s.admitFrame k p tag w).splitOut = s.splitOut := by
  unfold State.admitFrame; dsimp only; (repeat' split) <;> simp
@[simp] theorem State.admit_stage (k : FrameKind) (p : PortId) (tag : Byte) (w : Words) (s : State) : (s.admitFrame k p tag w).stage = s.stage := by
  unfold State.admitFrame; dsimp only; (repeat' split) <;> simp
@[simp] theorem State.admit_record (k : FrameKind) (p : PortId) (tag : Byte) (w : Words) (s : State) : (s.admitFrame k p tag w).record = s.record := by
  unfold State.admitFrame; dsimp only; (repeat' split) <;> simp
@[simp] theorem State.admit_pending (k : FrameKind) (p : PortId) (tag : Byte) (w : Words) (s : State) : (s.admitFrame k p tag w).pending = s.pending := by
  unfold State.admitFrame; dsimp only; (repeat' split) <;> simp
@[simp] theorem State.complete_rstN (p : PortId) (l : List Bool) (s : State) : (s.complete p l).rstN = s.rstN := by
  unfold State.complete; (repeat' split) <;> simp
@[simp] theorem State.complete_spdPin (p : PortId) (l : List Bool) (s : State) : (s.complete p l).spdPin = s.spdPin := by
  unfold State.complete; (repeat' split) <;> simp
@[simp] theorem State.complete_epochPin (p : PortId) (l : List Bool) (s : State) : (s.complete p l).epochPin = s.epochPin := by
  unfold State.complete; (repeat' split) <;> simp
@[simp] theorem State.complete_epochTimer (p : PortId) (l : List Bool) (s : State) : (s.complete p l).epochTimer = s.epochTimer := by
  unfold State.complete; (repeat' split) <;> simp
@[simp] theorem State.complete_tmr (p : PortId) (l : List Bool) (s : State) : (s.complete p l).tmr = s.tmr := by
  unfold State.complete; (repeat' split) <;> simp
@[simp] theorem State.complete_sampleDiv (p : PortId) (l : List Bool) (s : State) : (s.complete p l).sampleDiv = s.sampleDiv := by
  unfold State.complete; (repeat' split) <;> simp
@[simp] theorem State.complete_spd (p : PortId) (l : List Bool) (s : State) : (s.complete p l).spd = s.spd := by
  unfold State.complete; (repeat' split) <;> simp
@[simp] theorem State.complete_modeCtl (p : PortId) (l : List Bool) (s : State) : (s.complete p l).modeCtl = s.modeCtl := by
  unfold State.complete; (repeat' split) <;> simp
@[simp] theorem State.complete_request (p : PortId) (l : List Bool) (s : State) : (s.complete p l).request = s.request := by
  unfold State.complete; (repeat' split) <;> simp
@[simp] theorem State.complete_seq (p : PortId) (l : List Bool) (s : State) : (s.complete p l).seq = s.seq := by
  unfold State.complete; (repeat' split) <;> simp
@[simp] theorem State.complete_split (p : PortId) (l : List Bool) (s : State) : (s.complete p l).split = s.split := by
  unfold State.complete; (repeat' split) <;> simp
@[simp] theorem State.complete_splitOut (p : PortId) (l : List Bool) (s : State) : (s.complete p l).splitOut = s.splitOut := by
  unfold State.complete; (repeat' split) <;> simp
@[simp] theorem State.complete_stage (p : PortId) (l : List Bool) (s : State) : (s.complete p l).stage = s.stage := by
  unfold State.complete; (repeat' split) <;> simp
@[simp] theorem State.complete_record (p : PortId) (l : List Bool) (s : State) : (s.complete p l).record = s.record := by
  unfold State.complete; (repeat' split) <;> simp
@[simp] theorem State.complete_pending (p : PortId) (l : List Bool) (s : State) : (s.complete p l).pending = s.pending := by
  unfold State.complete; (repeat' split) <;> simp
@[simp] theorem State.goodFrame_rstN (k : FrameKind) (p : PortId) (tag : Byte) (w : Words) (s : State) : (s.goodFrame k p tag w).rstN = s.rstN := by
  unfold State.goodFrame State.pselRises; (repeat' split) <;> simp
@[simp] theorem State.goodFrame_spdPin (k : FrameKind) (p : PortId) (tag : Byte) (w : Words) (s : State) : (s.goodFrame k p tag w).spdPin = s.spdPin := by
  unfold State.goodFrame State.pselRises; (repeat' split) <;> simp
@[simp] theorem State.goodFrame_epochPin (k : FrameKind) (p : PortId) (tag : Byte) (w : Words) (s : State) : (s.goodFrame k p tag w).epochPin = s.epochPin := by
  unfold State.goodFrame State.pselRises; (repeat' split) <;> simp
@[simp] theorem State.goodFrame_epochTimer (k : FrameKind) (p : PortId) (tag : Byte) (w : Words) (s : State) : (s.goodFrame k p tag w).epochTimer = s.epochTimer := by
  unfold State.goodFrame State.pselRises; (repeat' split) <;> simp
@[simp] theorem State.goodFrame_tmr (k : FrameKind) (p : PortId) (tag : Byte) (w : Words) (s : State) : (s.goodFrame k p tag w).tmr = s.tmr := by
  unfold State.goodFrame State.pselRises; (repeat' split) <;> simp
@[simp] theorem State.goodFrame_sampleDiv (k : FrameKind) (p : PortId) (tag : Byte) (w : Words) (s : State) : (s.goodFrame k p tag w).sampleDiv = s.sampleDiv := by
  unfold State.goodFrame State.pselRises; (repeat' split) <;> simp
@[simp] theorem State.goodFrame_spd (k : FrameKind) (p : PortId) (tag : Byte) (w : Words) (s : State) : (s.goodFrame k p tag w).spd = s.spd := by
  unfold State.goodFrame State.pselRises; (repeat' split) <;> simp
@[simp] theorem State.goodFrame_modeCtl (k : FrameKind) (p : PortId) (tag : Byte) (w : Words) (s : State) : (s.goodFrame k p tag w).modeCtl = s.modeCtl := by
  unfold State.goodFrame State.pselRises; (repeat' split) <;> simp
@[simp] theorem State.goodFrame_request (k : FrameKind) (p : PortId) (tag : Byte) (w : Words) (s : State) : (s.goodFrame k p tag w).request = s.request := by
  unfold State.goodFrame State.pselRises; (repeat' split) <;> simp
@[simp] theorem State.goodFrame_seq (k : FrameKind) (p : PortId) (tag : Byte) (w : Words) (s : State) : (s.goodFrame k p tag w).seq = s.seq := by
  unfold State.goodFrame State.pselRises; (repeat' split) <;> simp
@[simp] theorem State.goodFrame_split (k : FrameKind) (p : PortId) (tag : Byte) (w : Words) (s : State) : (s.goodFrame k p tag w).split = s.split := by
  unfold State.goodFrame State.pselRises; (repeat' split) <;> simp
@[simp] theorem State.goodFrame_splitOut (k : FrameKind) (p : PortId) (tag : Byte) (w : Words) (s : State) : (s.goodFrame k p tag w).splitOut = s.splitOut := by
  unfold State.goodFrame State.pselRises; (repeat' split) <;> simp
@[simp] theorem State.goodFrame_stage (k : FrameKind) (p : PortId) (tag : Byte) (w : Words) (s : State) : (s.goodFrame k p tag w).stage = s.stage := by
  unfold State.goodFrame State.pselRises; (repeat' split) <;> simp
@[simp] theorem State.goodFrame_record (k : FrameKind) (p : PortId) (tag : Byte) (w : Words) (s : State) : (s.goodFrame k p tag w).record = s.record := by
  unfold State.goodFrame State.pselRises; (repeat' split) <;> simp
@[simp] theorem State.goodFrame_pending (k : FrameKind) (p : PortId) (tag : Byte) (w : Words) (s : State) : (s.goodFrame k p tag w).pending = s.pending := by
  unfold State.goodFrame State.pselRises; (repeat' split) <;> simp
@[simp] theorem State.rawFrame_rstN (p : PortId) (l : List Bool) (s : State) : (s.rawFrame p l).rstN = s.rstN := by
  unfold State.rawFrame State.pselRises; (repeat' split) <;> simp
@[simp] theorem State.rawFrame_spdPin (p : PortId) (l : List Bool) (s : State) : (s.rawFrame p l).spdPin = s.spdPin := by
  unfold State.rawFrame State.pselRises; (repeat' split) <;> simp
@[simp] theorem State.rawFrame_epochPin (p : PortId) (l : List Bool) (s : State) : (s.rawFrame p l).epochPin = s.epochPin := by
  unfold State.rawFrame State.pselRises; (repeat' split) <;> simp
@[simp] theorem State.rawFrame_epochTimer (p : PortId) (l : List Bool) (s : State) : (s.rawFrame p l).epochTimer = s.epochTimer := by
  unfold State.rawFrame State.pselRises; (repeat' split) <;> simp
@[simp] theorem State.rawFrame_tmr (p : PortId) (l : List Bool) (s : State) : (s.rawFrame p l).tmr = s.tmr := by
  unfold State.rawFrame State.pselRises; (repeat' split) <;> simp
@[simp] theorem State.rawFrame_sampleDiv (p : PortId) (l : List Bool) (s : State) : (s.rawFrame p l).sampleDiv = s.sampleDiv := by
  unfold State.rawFrame State.pselRises; (repeat' split) <;> simp
@[simp] theorem State.rawFrame_spd (p : PortId) (l : List Bool) (s : State) : (s.rawFrame p l).spd = s.spd := by
  unfold State.rawFrame State.pselRises; (repeat' split) <;> simp
@[simp] theorem State.rawFrame_modeCtl (p : PortId) (l : List Bool) (s : State) : (s.rawFrame p l).modeCtl = s.modeCtl := by
  unfold State.rawFrame State.pselRises; (repeat' split) <;> simp
@[simp] theorem State.rawFrame_request (p : PortId) (l : List Bool) (s : State) : (s.rawFrame p l).request = s.request := by
  unfold State.rawFrame State.pselRises; (repeat' split) <;> simp
@[simp] theorem State.rawFrame_seq (p : PortId) (l : List Bool) (s : State) : (s.rawFrame p l).seq = s.seq := by
  unfold State.rawFrame State.pselRises; (repeat' split) <;> simp
@[simp] theorem State.rawFrame_split (p : PortId) (l : List Bool) (s : State) : (s.rawFrame p l).split = s.split := by
  unfold State.rawFrame State.pselRises; (repeat' split) <;> simp
@[simp] theorem State.rawFrame_splitOut (p : PortId) (l : List Bool) (s : State) : (s.rawFrame p l).splitOut = s.splitOut := by
  unfold State.rawFrame State.pselRises; (repeat' split) <;> simp
@[simp] theorem State.rawFrame_stage (p : PortId) (l : List Bool) (s : State) : (s.rawFrame p l).stage = s.stage := by
  unfold State.rawFrame State.pselRises; (repeat' split) <;> simp
@[simp] theorem State.rawFrame_record (p : PortId) (l : List Bool) (s : State) : (s.rawFrame p l).record = s.record := by
  unfold State.rawFrame State.pselRises; (repeat' split) <;> simp
@[simp] theorem State.rawFrame_pending (p : PortId) (l : List Bool) (s : State) : (s.rawFrame p l).pending = s.pending := by
  unfold State.rawFrame State.pselRises; (repeat' split) <;> simp

end Sys2Proof.Machine
end

