-- ==== Sys2Proof/Laws/Dispatch.lean ====
section
/-! SUPPORT. The commands of a port as frames: what `exec` makes of a request, of a raw frame and of an admitted frame. -/

namespace Sys2Proof

@[simp] theorem byteBits_length (b : Byte) : (byteBits b).length = 8 := rfl

@[simp] theorem bytesBits_nil : bytesBits [] = [] := rfl

@[simp] theorem bytesBits_cons (b : Byte) (l : List Byte) : bytesBits (b :: l) = byteBits b ++ bytesBits l := by simp [bytesBits]

@[simp] theorem bytesBits_append (l m : List Byte) : bytesBits (l ++ m) = bytesBits l ++ bytesBits m := by simp [bytesBits]

@[simp] theorem bytesBits_length (l : List Byte) : (bytesBits l).length = 8 * l.length := by
  induction l with
  | nil => rfl
  | cons b l ih => rw [bytesBits_cons, List.length_append, ih, byteBits_length, List.length_cons]; omega

/-- The bits of a byte make that byte again, whatever follows them. -/
@[simp] theorem byteOfBits_byteBits (b : Byte) (l : List Bool) : byteOfBits (byteBits b ++ l) = b := by
  have h : (byteBits b ++ l).take 8 = byteBits b := List.take_left' rfl
  rw [byteOfBits, h]
  clear h; revert b; decide

/-- Byte `n` of the bits of whole bytes, whatever follows them. -/
theorem byteAt_bytesBits (l : List Byte) (m : List Bool) (n : Nat) (h : n < l.length) :
    byteAt (bytesBits l ++ m) n = l[n] := by
  induction l generalizing n with
  | nil => exact absurd h (Nat.not_lt_zero n)
  | cons b l ih =>
    cases n with
    | zero => simp [byteAt, List.append_assoc]
    | succ n =>
      have hd : (bytesBits (b :: l) ++ m).drop (8 * (n + 1)) = (bytesBits l ++ m).drop (8 * n) := by
        rw [bytesBits_cons, List.append_assoc, List.drop_append]
        simp only [byteBits_length]
        rw [List.drop_of_length_le (by rw [byteBits_length]; omega), List.nil_append,
          show 8 * (n + 1) - 8 = 8 * n by omega]
      rw [byteAt, hd]
      exact ih n (Nat.lt_of_succ_lt_succ h)

@[simp] theorem wordBytes_length (w : Word) : (wordBytes w).length = 2 := rfl

@[simp] theorem wordsBytes_length (w : Words) : (wordsBytes w).length = 8 := rfl

@[simp] theorem frameBytes_length (c t : Byte) (w : Words) : (frameBytes c t w).length = 11 := rfl

@[simp] theorem requestBits_length (k : FrameKind) (tag : Byte) (w : Words) : (requestBits k tag w).length = 88 := by
  rw [requestBits, bytesBits_length, frameBytes_length]

theorem kindOfCode_code (k : FrameKind) : kindOfCode k.code = some k := by cases k <;> rfl

end Sys2Proof

namespace Sys2Proof.Machine

/-- A request command is the completion of its frame. -/
theorem exec_command (k : FrameKind) (p : PortId) (tag : Byte) (w : Words) (s : State) :
    exec (k.command p tag w) s = .next (s.goodFrame k p tag w) := by cases k <;> rfl

theorem port_command (k : FrameKind) (p : PortId) (tag : Byte) (w : Words) : port (k.command p tag w) = some p := by
  cases k <;> rfl

/-- A live port takes the end of a frame. -/
theorem State.pselRises_live {p : PortId} {s : State} (h : s.Live p) (f : State → State) : s.pselRises p f = f s := by
  simp [State.pselRises, h.1, h.2]

/-- A port that waits for PSEL to rise takes only the end of the wait (R197). -/
theorem State.pselRises_waiting {p : PortId} {s : State} (h : s.rstN = true) (hw : (s.ports.get p).pselWait = true)
    (f : State → State) : s.pselRises p f = s.setPort p { s.ports.get p with pselWait := false } := by
  simp [State.pselRises, h, hw]

/-- In reset nothing completes (R192). -/
theorem State.pselRises_reset {p : PortId} {s : State} (h : s.rstN = false) (f : State → State) : s.pselRises p f = s := by
  simp [State.pselRises, h]

theorem State.goodFrame_live {p : PortId} {s : State} (h : s.Live p) (k : FrameKind) (tag : Byte) (w : Words) :
    s.goodFrame k p tag w = (s.frameEnds p (requestBits k tag w)).admitFrame k p tag w := State.pselRises_live h _

theorem roleAdmits_iff (k : FrameKind) (r : Role) : roleAdmits k r = true ↔ ∀ b, boundRole k = some b → r = b := by
  unfold roleAdmits
  cases boundRole k with
  | none => simp
  | some b => exact ⟨fun h c hc => by rw [← Option.some.inj hc]; exact (beq_iff_eq.1 h).symm,
      fun h => beq_iff_eq.2 (h b rfl).symm⟩

/-- An admitted frame is served on the state in which it has ended, and its answer is held (R180). -/
theorem State.goodFrame_admitted {k : FrameKind} {p : PortId} {s : State} (h : s.Admits k p) (tag : Byte) (w : Words) :
    s.goodFrame k p tag w =
      (serve k p w (s.frameEnds p (requestBits k tag w))).state.answer p
        ⟨(serve k p w (s.frameEnds p (requestBits k tag w))).result, tag,
          (serve k p w (s.frameEnds p (requestBits k tag w))).words⟩ := by
  have hd : (s.ports.get p).disabled = false := h.2.1
  have hr : roleAdmits k (s.ports.get p).role = true := (roleAdmits_iff _ _).2 h.2.2
  rw [State.goodFrame_live h.1]
  unfold State.admitFrame
  rw [State.frameEnds_ports_get, if_pos rfl]
  simp only [hd, hr, if_true, Bool.false_eq_true, if_false]

/-- The port after an admitted frame, where serving it leaves the ports alone. -/
theorem State.goodFrame_answered {k : FrameKind} {p : PortId} {s : State} (h : s.Admits k p) (tag : Byte) (w : Words)
    (hp : (serve k p w (s.frameEnds p (requestBits k tag w))).state.ports = (s.frameEnds p (requestBits k tag w)).ports) :
    Answered k p tag w (serve k p w (s.frameEnds p (requestBits k tag w))).result
      (serve k p w (s.frameEnds p (requestBits k tag w))).words s (s.goodFrame k p tag w) := by
  rw [State.goodFrame_admitted h]
  refine ⟨?_, fun q hq => ?_⟩
  · simp [hp]
  · simp [hp, hq]

/-- No request changes another port. -/
theorem serve_ports_ne (k : FrameKind) (p q : PortId) (w : Words) (s : State) (hq : q ≠ p) :
    (serve k p w s).state.ports.get q = s.ports.get q := by
  cases k
  case readSplit =>
    rcases serveReadSplit_state p w s with h | h <;> simp only [serve, h]
    unfold State.refreshPage; split <;> simp [hq]
  case claim => rcases serveClaim_state p s with h | ⟨c, h⟩ <;> simp [serve, h]
  case release => rcases serveRelease_state p s with h | h <;> simp [serve, h]
  case loadRow => rcases serveLoadRow_state p w s with h | ⟨c, h⟩ <;> simp [serve, h]
  case commit => rcases serveCommit_state p s with h | ⟨c, h⟩ <;> simp [serve, h]
  all_goals first | rfl | simp [serve]

theorem State.admit_ports_ne (k : FrameKind) (p q : PortId) (tag : Byte) (w : Words) (s : State) (hq : q ≠ p) :
    (s.admitFrame k p tag w).ports.get q = s.ports.get q := by
  unfold State.admitFrame
  dsimp only
  (repeat' split) <;> simp [hq, serve_ports_ne]

theorem State.complete_ports_ne (p q : PortId) (l : List Bool) (s : State) (hq : q ≠ p) :
    (s.complete p l).ports.get q = s.ports.get q := by
  unfold State.complete
  split
  · simp [hq]
  · split <;> simp [hq, State.admit_ports_ne]

theorem State.goodFrame_ports_ne (k : FrameKind) (p q : PortId) (tag : Byte) (w : Words) (s : State) (hq : q ≠ p) :
    (s.goodFrame k p tag w).ports.get q = s.ports.get q := by
  unfold State.goodFrame State.pselRises
  (repeat' split) <;> simp [hq, State.admit_ports_ne]

theorem State.rawFrame_ports_ne (p q : PortId) (l : List Bool) (s : State) (hq : q ≠ p) :
    (s.rawFrame p l).ports.get q = s.ports.get q := by
  unfold State.rawFrame State.pselRises
  (repeat' split) <;> simp [hq, State.complete_ports_ne]

/-- A command of a port is the end of its wait, the begin of a frame, a raw frame, or a request. -/
theorem forms_of_port (c : Instr) (p : PortId) (hc : port c = some p) :
    c = .resetPselWaitEnd p ∨ c = .frameBegin p ∨ (∃ b x, c = .frameRefused p b x) ∨ ∃ k tag w, c = FrameKind.command k p tag w := by
  cases c <;> simp only [port, Option.some.injEq, reduceCtorEq] at hc <;> subst hc
  case resetPselWaitEnd => exact .inl rfl
  case frameBegin => exact .inr (.inl rfl)
  case frameRefused b x => exact .inr (.inr (.inl ⟨b, x, rfl⟩))
  case nop t w => exact .inr (.inr (.inr ⟨.nop, t, w, rfl⟩))
  case identify t w => exact .inr (.inr (.inr ⟨.identify, t, w, rfl⟩))
  case vehicleReport t w => exact .inr (.inr (.inr ⟨.vehicleReport, t, w, rfl⟩))
  case engineReport t w => exact .inr (.inr (.inr ⟨.engineReport, t, w, rfl⟩))
  case motorReport t w => exact .inr (.inr (.inr ⟨.motorReport, t, w, rfl⟩))
  case batteryReport t w => exact .inr (.inr (.inr ⟨.batteryReport, t, w, rfl⟩))
  case declareVehicle t w => exact .inr (.inr (.inr ⟨.declareVehicle, t, w, rfl⟩))
  case declareEngine t w => exact .inr (.inr (.inr ⟨.declareEngine, t, w, rfl⟩))
  case declareMotor t w => exact .inr (.inr (.inr ⟨.declareMotor, t, w, rfl⟩))
  case declareBattery t w => exact .inr (.inr (.inr ⟨.declareBattery, t, w, rfl⟩))
  case readGrant t w => exact .inr (.inr (.inr ⟨.readGrant, t, w, rfl⟩))
  case readSplit t w => exact .inr (.inr (.inr ⟨.readSplit, t, w, rfl⟩))
  case readStatus t w => exact .inr (.inr (.inr ⟨.readStatus, t, w, rfl⟩))
  case readNotices t w => exact .inr (.inr (.inr ⟨.readNotices, t, w, rfl⟩))
  case clearNotices t w => exact .inr (.inr (.inr ⟨.clearNotices, t, w, rfl⟩))
  case setNoticeEnable t w => exact .inr (.inr (.inr ⟨.setNoticeEnable, t, w, rfl⟩))
  case claim t w => exact .inr (.inr (.inr ⟨.claim, t, w, rfl⟩))
  case release t w => exact .inr (.inr (.inr ⟨.release, t, w, rfl⟩))
  case loadRow t w => exact .inr (.inr (.inr ⟨.loadRow, t, w, rfl⟩))
  case commit t w => exact .inr (.inr (.inr ⟨.commit, t, w, rfl⟩))
  case readRow t w => exact .inr (.inr (.inr ⟨.readRow, t, w, rfl⟩))

end Sys2Proof.Machine
end

