-- ==== Sys2Proof/Laws/Ports.lean ====
section
/-! SUPPORT. The blocks read nothing of a port but its role and its disabled flag: so what a request does is the same whether the
frame that carried it has ended on its port or not. -/

namespace Sys2Proof.Machine

/-- Two tables of ports with the same roles and disabled flags. -/
def Alike (g h : PerPort Port) : Prop := ∀ q, (g.get q).role = (h.get q).role ∧ (g.get q).disabled = (h.get q).disabled

/-- The state with other ports. -/
def State.withPorts (g : PerPort Port) (s : State) : State := { s with ports := g }

theorem State.frameEnds_eq (p : PortId) (l : List Bool) (s : State) :
    s.frameEnds p l = s.withPorts (s.frameEnds p l).ports := rfl

theorem State.frameEnds_alike (p : PortId) (l : List Bool) (s : State) : Alike (s.frameEnds p l).ports s.ports := by
  intro q
  rw [State.frameEnds_ports_get]
  split
  · rename_i h; subst h; exact ⟨rfl, rfl⟩
  · exact ⟨rfl, rfl⟩

theorem State.withPorts_broadcast (k : NoticeKind) {g : PerPort Port} {s : State} (h : Alike g s.ports) :
    (s.withPorts g).broadcast k = (s.broadcast k).withPorts g := by
  have e : PerPort.zipWith (fun q n => if q.disabled then n else n.raise k) g s.ntc
      = PerPort.zipWith (fun q n => if q.disabled then n else n.raise k) s.ports s.ntc :=
    PerPort.ext_get fun q => by simp [(h q).2]
  simp only [State.broadcast, State.withPorts, e]

theorem State.withPorts_broadcastIf (b : Bool) (k : NoticeKind) {g : PerPort Port} {s : State} (h : Alike g s.ports) :
    (s.withPorts g).broadcastIf b k = (s.broadcastIf b k).withPorts g := by
  cases b
  · rfl
  · exact State.withPorts_broadcast k h

theorem State.withPorts_loseClaim (c : Claim) {g : PerPort Port} {s : State} (h : Alike g s.ports) :
    (s.withPorts g).loseClaim c = (s.loseClaim c).withPorts g := by
  have h1 := State.withPorts_broadcastIf c.pending .calRejected (g := g)
    (s := { s with cal := { s.cal with claim := none, lastRejection := if c.pending then .claimLost else s.cal.lastRejection } }) h
  unfold State.loseClaim
  dsimp only at h1 ⊢
  erw [h1]
  exact State.withPorts_broadcast _ (by simpa using h)

theorem State.withPorts_lapseSignal (r : Role) {g : PerPort Port} {s : State} (h : Alike g s.ports) :
    (s.withPorts g).lapseSignal r = (s.lapseSignal r).withPorts g := by
  unfold State.lapseSignal
  show (match s.cal.claim with
    | some c => if (g.get c.holder).role = r then (s.withPorts g).loseClaim c else s.withPorts g
    | none => s.withPorts g) = _
  cases s.cal.claim with
  | none => rfl
  | some c =>
    simp only [(h c.holder).1, State.withPorts_loseClaim c h]
    split <;> rfl

theorem State.withPorts_boundaryUpdate (r : Role) {g : PerPort Port} {s : State} (h : Alike g s.ports) :
    (s.withPorts g).boundaryUpdate r = (s.boundaryUpdate r).withPorts g := by
  have h1 := State.withPorts_broadcastIf (boundaryCtl s.cal.active.holdPeriods (s.src.get r)).2.1 .sourceChanged (g := g)
    (s := { s with src := s.src.set r (boundaryCtl s.cal.active.holdPeriods (s.src.get r)).1 }) h
  unfold State.boundaryUpdate
  dsimp only [State.withPorts] at h1 ⊢
  erw [h1]
  split
  · exact State.withPorts_lapseSignal r (by simpa using h)
  · rfl

theorem State.withPorts_settleSource (r : Role) {g : PerPort Port} {s : State} (h : Alike g s.ports) :
    (s.withPorts g).settleSource r = (s.settleSource r).withPorts g := by
  unfold State.settleSource
  rw [State.withPorts_boundaryUpdate r h]
  show (if s.snapDone.get r = true then s.withPorts g else _) = _
  split
  · rfl
  · cases r <;> rfl

theorem State.withPorts_finishSource (r : Role) {g : PerPort Port} {s : State} (h : Alike g s.ports) :
    (s.withPorts g).finishSource r = (s.finishSource r).withPorts g := by
  unfold State.finishSource
  rw [State.withPorts_settleSource r h]
  show (if s.stage = .src then _ else _) = _
  split <;> rfl

/-- Serving a report does not read the frame that carried it. -/
theorem serveReport_withPorts (r : Role) (w : Words) {g : PerPort Port} {s : State} (h : Alike g s.ports) :
    serveReport r w (s.withPorts g) =
      ⟨(serveReport r w s).state.withPorts g, (serveReport r w s).result, (serveReport r w s).words⟩ := by
  unfold serveReport
  rw [State.withPorts_finishSource r h]
  show (if (s.src.get r).state = .undeclared then _ else _) = _
  split
  · rfl
  · exact congrArg (fun x => Served.mk x _ _)
      (State.withPorts_broadcastIf _ .sourceChanged (g := g)
        (s := { s.finishSource r with
          heldVals := (storeReport r ((s.finishSource r).env.get r) w (s.finishSource r).heldVals).held
          src := (s.finishSource r).src.set r
            (acceptCtl ((s.finishSource r).env.get r).window
              (storeReport r ((s.finishSource r).env.get r) w (s.finishSource r).heldVals).clamped
              ((s.finishSource r).src.get r)).1 })
        (by simpa using h))

/-- Serving a DECLARE does not read the frame that carried it. -/
theorem serveDeclare_withPorts (r : Role) (w : Words) {g : PerPort Port} {s : State} (h : Alike g s.ports) :
    serveDeclare r w (s.withPorts g) =
      ⟨(serveDeclare r w s).state.withPorts g, (serveDeclare r w s).result, (serveDeclare r w s).words⟩ := by
  unfold serveDeclare
  rw [State.withPorts_finishSource r h]
  show (if declareOpen s.record.mode = true then _ else _) = _
  split
  · exact congrArg (fun x => Served.mk x _ _)
      (State.withPorts_broadcast .envelopeChanged (g := g)
        (s := { s.finishSource r with
          env := (s.finishSource r).env.set r (declaredEnvelope r w)
          heldVals := reclip r (declaredEnvelope r w) (s.finishSource r).heldVals
          src := (s.finishSource r).src.set r
            (declareCtl (declaredEnvelope r w).window
              (decide (reclip r (declaredEnvelope r w) (s.finishSource r).heldVals ≠ (s.finishSource r).heldVals))
              ((s.finishSource r).src.get r)) })
        (by simpa using h))
  · rfl

theorem State.calStatus_withPorts {g : PerPort Port} {s : State} (h : Alike g s.ports) :
    (s.withPorts g).calStatus = s.calStatus := by
  unfold State.calStatus
  show (match s.cal.claim with | some c => _ | none => _) = _
  cases s.cal.claim with
  | none => rfl
  | some c => simp only [State.withPorts, (h c.holder).1]

/-- A state that the frame's end made, served: the frame's end may be taken after the service as well as before it. -/
theorem State.goodFrame_report (r : Role) {p : PortId} {s : State} (h : s.Admits (reportKind r) p) (tag : Byte) (w : Words) :
    s.goodFrame (reportKind r) p tag w =
      ((serveReport r w s).state.withPorts (s.frameEnds p (requestBits (reportKind r) tag w)).ports).answer p
        ⟨(serveReport r w s).result, tag, (serveReport r w s).words⟩ := by
  have e : ∀ x, serve (reportKind r) p w x = serveReport r w x := fun x => by cases r <;> rfl
  rw [State.goodFrame_admitted h, e, State.frameEnds_eq, serveReport_withPorts r w (State.frameEnds_alike p _ s)]
  rfl

theorem State.goodFrame_declare (r : Role) {p : PortId} {s : State} (h : s.Admits (declareKind r) p) (tag : Byte) (w : Words) :
    s.goodFrame (declareKind r) p tag w =
      ((serveDeclare r w s).state.withPorts (s.frameEnds p (requestBits (declareKind r) tag w)).ports).answer p
        ⟨(serveDeclare r w s).result, tag, (serveDeclare r w s).words⟩ := by
  have e : ∀ x, serve (declareKind r) p w x = serveDeclare r w x := fun x => by cases r <;> rfl
  rw [State.goodFrame_admitted h, e, State.frameEnds_eq, serveDeclare_withPorts r w (State.frameEnds_alike p _ s)]
  rfl

/-- The port after an admitted report. -/
theorem State.goodFrame_report_answered (r : Role) {p : PortId} {s : State} (h : s.Admits (reportKind r) p) (tag : Byte)
    (w : Words) :
    Answered (reportKind r) p tag w (serveReport r w s).result (serveReport r w s).words s
      (s.goodFrame (reportKind r) p tag w) := by
  rw [State.goodFrame_report r h]
  refine ⟨?_, fun q hq => ?_⟩
  · rw [State.answer_ports_get, if_pos rfl]; simp [State.withPorts]
  · rw [State.answer_ports_get, if_neg hq]; simp [State.withPorts, hq]

/-- The port after an admitted DECLARE. -/
theorem State.goodFrame_declare_answered (r : Role) {p : PortId} {s : State} (h : s.Admits (declareKind r) p) (tag : Byte)
    (w : Words) :
    Answered (declareKind r) p tag w (serveDeclare r w s).result (serveDeclare r w s).words s
      (s.goodFrame (declareKind r) p tag w) := by
  rw [State.goodFrame_declare r h]
  refine ⟨?_, fun q hq => ?_⟩
  · rw [State.answer_ports_get, if_pos rfl]; simp [State.withPorts]
  · rw [State.answer_ports_get, if_neg hq]; simp [State.withPorts, hq]

end Sys2Proof.Machine
end

