-- ==== Sys2Proof/Laws/Sequencer.lean ====
section
/-! SUPPORT. What the operations on the sequencer leave in each of its fields, and what the snapshot of a wait that stands does to it. -/

namespace Sys2Proof.Machine

/-! ### Entry to a state (R80) -/

@[simp] theorem Seq.enter_state (c : CalSet) (st : SeqState) (q : Seq) : (q.enter c st).state = st := rfl
@[simp] theorem Seq.enter_timer (c : CalSet) (st : SeqState) (q : Seq) : (q.enter c st).timer = timeoutRow c st := rfl
@[simp] theorem Seq.enter_syncRun (c : CalSet) (st : SeqState) (q : Seq) : (q.enter c st).syncRun = 0 := rfl
@[simp] theorem Seq.enter_spent (c : CalSet) (st : SeqState) (q : Seq) : (q.enter c st).spent = 0 := rfl
@[simp] theorem Seq.enter_avail (c : CalSet) (st : SeqState) (q : Seq) : (q.enter c st).avail = q.avail := rfl
@[simp] theorem Seq.enter_attempts (c : CalSet) (st : SeqState) (q : Seq) : (q.enter c st).attempts = q.attempts := rfl
@[simp] theorem Seq.enter_coolOff (c : CalSet) (st : SeqState) (q : Seq) : (q.enter c st).coolOff = q.coolOff := rfl
@[simp] theorem Seq.enter_lastReason (c : CalSet) (st : SeqState) (q : Seq) : (q.enter c st).lastReason = q.lastReason := rfl
@[simp] theorem Seq.enter_failurePending (c : CalSet) (st : SeqState) (q : Seq) :
    (q.enter c st).failurePending = q.failurePending := rfl

/-! ### A period of a wait (R80) -/

@[simp] theorem Seq.tick_state (q : Seq) : q.tick.state = q.state := by unfold Seq.tick; split <;> rfl
@[simp] theorem Seq.tick_timer (q : Seq) : q.tick.timer = q.timer - 1 := by unfold Seq.tick; split <;> simp [*]
@[simp] theorem Seq.tick_syncRun (q : Seq) : q.tick.syncRun = q.syncRun := by unfold Seq.tick; split <;> rfl
@[simp] theorem Seq.tick_avail (q : Seq) : q.tick.avail = q.avail := by unfold Seq.tick; split <;> rfl
@[simp] theorem Seq.tick_attempts (q : Seq) : q.tick.attempts = q.attempts := by unfold Seq.tick; split <;> rfl
@[simp] theorem Seq.tick_coolOff (q : Seq) : q.tick.coolOff = q.coolOff := by unfold Seq.tick; split <;> rfl
@[simp] theorem Seq.tick_lastReason (q : Seq) : q.tick.lastReason = q.lastReason := by unfold Seq.tick; split <;> rfl
@[simp] theorem Seq.tick_failurePending (q : Seq) : q.tick.failurePending = q.failurePending := by unfold Seq.tick; split <;> rfl

/-- A period takes one from the timer and adds one to the time spent, or the timer has run out and both stay. -/
theorem Seq.tick_eq (q : Seq) :
    q.tick = { q with timer := q.timer - 1, spent := if q.timer = 0 then q.spent else q.spent + 1 } := by
  unfold Seq.tick; split
  · next h => cases q; simp_all
  · rfl

/-- What is left and what is spent of a wait add up to the same before and after a period. -/
theorem Seq.tick_sum (q : Seq) : q.tick.timer + q.tick.spent = q.timer + q.spent := by
  rw [Seq.tick_eq]; dsimp only; split <;> omega

/-! ### The application of a set (R96; log 23) -/

/-- A row that a set leaves as it was adjusts nothing. -/
@[simp] theorem lowerChanged_same (row x : Nat) : lowerChanged row row x = x := by simp [lowerChanged]

@[simp] theorem lowerTimer_same (row spent timer : Nat) : lowerTimer row row spent timer = timer := by simp [lowerTimer]

/-- A counter that its row bounds is bounded by the new row after a set's application, and is never raised. -/
theorem lowerChanged_eq_min {old x : Nat} (h : x ≤ old) (row : Nat) : lowerChanged old row x = min x row := by
  unfold lowerChanged; split <;> omega

theorem lowerChanged_le (old row x : Nat) : lowerChanged old row x ≤ x := by unfold lowerChanged; split <;> omega

/-- A timer is never raised by a set's application, and a running one never brought to 0 by a row above 0. -/
theorem lowerTimer_le (old row spent timer : Nat) : lowerTimer old row spent timer ≤ timer := by
  unfold lowerTimer; split
  · omega
  · exact lowerChanged_le ..

theorem lowerTimer_pos {row timer : Nat} (h : 0 < row) (g : 0 < timer) (old spent : Nat) : 0 < lowerTimer old row spent timer := by
  unfold lowerTimer lowerChanged; split
  · omega
  · split <;> omega

/-- A wait whose row is lowered below the time spent is at its last period. -/
theorem lowerTimer_late {old row spent timer : Nat} (h : row < old) (g : row < spent) (k : 0 < timer) :
    lowerTimer old row spent timer = 1 := by
  unfold lowerTimer; split <;> omega

/-- The application of a set that keeps SEQ's rows leaves SEQ as it stands (R96). -/
theorem Seq.adjust_unchanged {old new : CalSet} {q : Seq} (h : timeoutRow new q.state = timeoutRow old q.state)
    (g : new.coolOff = old.coolOff) (k : new.retryLimit = old.retryLimit) : q.adjust old new = q := by
  simp [Seq.adjust, h, g, k]

@[simp] theorem Seq.adjust_state (old new : CalSet) (q : Seq) : (q.adjust old new).state = q.state := rfl
@[simp] theorem Seq.adjust_avail (old new : CalSet) (q : Seq) : (q.adjust old new).avail = q.avail := rfl
@[simp] theorem Seq.adjust_lastReason (old new : CalSet) (q : Seq) : (q.adjust old new).lastReason = q.lastReason := rfl
@[simp] theorem Seq.adjust_syncRun (old new : CalSet) (q : Seq) : (q.adjust old new).syncRun = q.syncRun := rfl
@[simp] theorem Seq.adjust_spent (old new : CalSet) (q : Seq) : (q.adjust old new).spent = q.spent := rfl
@[simp] theorem Seq.adjust_failurePending (old new : CalSet) (q : Seq) : (q.adjust old new).failurePending = q.failurePending := rfl

/-! ### A snapshot that leaves a wait standing (R80, R82 to R84, R90 to R93) -/

theorem SeqInput.runNow_eq (i : SeqInput) (q : Seq) : i.runNow q.syncRun = i.syncRun q := by
  simp [SeqInput.runNow, SeqInput.syncRun, SeqInput.inBand]

theorem CalSet.timeoutOf_eq (c : CalSet) (st : SeqState) : c.timeoutOf st = timeoutRow c st := by cases st <;> rfl

/-- Such a snapshot is one without progress and without a FAULT that decides; only a wait can stand. -/
theorem SeqInput.stands_iff (i : SeqInput) (q : Seq) :
    i.Stands q.syncRun q.state ↔ q.state.waits = true ∧ i.progresses q = false
      ∧ (i.snap.engineFault = true → q.state = .clutchRelease ∨ q.state = .offWait) := by
  unfold SeqInput.Stands SeqInput.progresses SeqState.waits Snapshot.engineFault Snapshot.alive
  rw [SeqInput.runNow_eq]
  cases q.state <;> cases i.snap.engine.state <;> simp [PerRole.get]

end Sys2Proof.Machine
end

