-- ==== Sys2Proof/Laws/Values.lean ====
section
/-! SUPPORT. What the shared operations on values do: clamps, the decay of a demand, a grant, a quotient rounded up. -/

namespace Sys2Proof.Machine

/-- A clamp into a range that is not empty is the smaller of the upper end and the value, not below the lower end. -/
theorem clamp_eq {lo hi : Int} (h : lo ≤ hi) (x : Int) : clamp lo hi x = max lo (min hi x) := by
  unfold clamp; split
  · omega
  · split <;> omega

/-- A clamp into a range that is not empty ends in it. -/
theorem clamp_between {lo hi : Int} (h : lo ≤ hi) (x : Int) : lo ≤ clamp lo hi x ∧ clamp lo hi x ≤ hi := by
  rw [clamp_eq h]; omega

/-- A value in the range is left by the clamp. -/
theorem clamp_of_between {lo hi x : Int} (h : lo ≤ x) (g : x ≤ hi) : clamp lo hi x = x := by rw [clamp_eq (h.trans g)]; omega

/-- A demand decays by the ramp toward 0 and stops there (R106). -/
theorem decay_eq {ramp : Int} (h : 0 ≤ ramp) (td : Int) :
    decay td ramp = if 0 ≤ td then max 0 (td - ramp) else min 0 (td + ramp) := by
  unfold decay; split
  · split <;> split <;> omega
  · split
    · split <;> split <;> omega
    · split <;> omega

/-- A decayed demand lies between 0 and the demand before. -/
theorem decay_between {ramp : Int} (h : 0 ≤ ramp) (td : Int) :
    (0 ≤ td → 0 ≤ decay td ramp ∧ decay td ramp ≤ td) ∧ (td ≤ 0 → td ≤ decay td ramp ∧ decay td ramp ≤ 0) := by
  rw [decay_eq h]; split <;> omega

/-- A grant ends within its bounds, whatever the ramp window (R116, R118). -/
theorem grant_between {lo hi : Int} (h : lo ≤ hi) (prev ramp share : Int) :
    lo ≤ grant prev ramp lo hi share ∧ grant prev ramp lo hi share ≤ hi := clamp_between h _

/-- A quotient rounded up is the least whole number that is not below the quotient. -/
theorem ceilDiv_le_iff {b : Int} (h : 0 < b) (a n : Int) : ceilDiv a b ≤ n ↔ a ≤ n * b := by
  unfold ceilDiv
  have := Int.le_ediv_iff_mul_le (a := -n) (b := -a) h
  rw [Int.neg_mul] at this
  omega

end Sys2Proof.Machine
end

