-- ==== Sys2Proof/Tests/Slice0.lean ====
section
/-! SUPPORT. Small tests, each expected value from the spec's worked examples and tables or by hand from its rules; and for each
statement with hypotheses a witness that meets them. -/

namespace Sys2Proof.Tests

open Sys2Proof Sys2Proof.Machine

/-! ### Helpers -/

/-- The state that a command leaves. -/
def after (c : Instr) (s : State) : State :=
  match exec c s with
  | .next t => t
  | .fault f => nomatch f
  | .refused _ => s

/-- The reset state with a stage due. -/
def due (st : Stage) : State := { State.reset with stage := st }

/-- Four words given as integers. -/
def words (a b c d : Int) : Words := ⟨word a, word b, word c, word d⟩

/-- A source record in a state, with a freshness counter. -/
def source (f : Freshness) (n : Nat) : SourceCtl := { SourceCtl.reset with state := f, fresh := n }

/-- The reset state with every source declared and FRESH, and a stage due. -/
def driven (st : Stage) : State :=
  { due st with
    src := .all (source .fresh 2)
    snap := { Snapshot.reset with state := .all .fresh, motor := ⟨false, 250, 200, some 1800⟩, battery := ⟨520, 600, 300, 25⟩
                                  engine := ⟨.off, .opened, false, false, true, 210, 30, 0⟩ }
    env := ⟨⟨1000, 1000, 50, 3⟩, ⟨300, 50, 12, 3⟩, ⟨300, 250, 60, 3⟩, ⟨3000, 3000, 200, 3⟩⟩
    envCopy := ⟨⟨1000, 1000, 50, 3⟩, ⟨300, 50, 12, 3⟩, ⟨300, 250, 60, 3⟩, ⟨3000, 3000, 200, 3⟩⟩ }

/-- A driven state at MODE's or SEQ's stage, in a mode and a sequencer state. -/
def moded (st : Stage) (m : Mode) (q : SeqState) : State :=
  { driven st with modeCtl := { ModeCtl.reset with mode := m }, seq := { Seq.reset with state := q } }

/-- A moded state with a vehicle and an engine value in its snapshot. -/
def shown (s : State) (drive zone : Bool) (e : EngineState) : State :=
  { s with snap := { s.snap with vehicle := ⟨drive, zone, 0, 0⟩, engine := { s.snap.engine with state := e } } }

/-- The held response of a port. -/
def held (s : State) (p : PortId) : Response := (s.ports.get p).held

/-- A split input of chapter 6's worked cases, with the default calibration set and n_eff not below 500. -/
def splitCase (m : Mode) (q : SeqState) (td n : Int) (b : BatteryValues) (motoring generating maxTorque drag te tm : Int) :
    SplitInput :=
  { snap := { Snapshot.reset with
              state := .all .fresh, vehicle := ⟨true, false, td, 400⟩
              engine := ⟨.running, .closed, true, false, false, maxTorque, drag, n⟩
              motor := ⟨false, motoring, generating, some n⟩, battery := b }
    nSel := n, nEff := max n 500, mode := m, seqState := q, decayRamp := 50, rampE := 12, rampM := 60, cal := .defaults
    prev := ⟨0, te, tm, 0, true⟩ }

/-! ### Well-formedness (the smoke test) -/

theorem test_wellFormed_refuses_eight_bits_after_the_bytes :
    Instr.wellFormed (.frameRefused .p0 [] [true, true, true, true, true, true, true, true]) = false := by decide

theorem test_wellFormed_admits_seven_bits : Instr.wellFormed (.frameRefused .p0 [] [true, true, true, true, true, true, true]) = true := by
  decide

/-! ### Frames (chapter 10) -/

/-- The published check value of this CRC-8 over the ASCII digits 1 to 9. -/
theorem test_crc8_check_value : crc8 [0x31, 0x32, 0x33, 0x34, 0x35, 0x36, 0x37, 0x38, 0x39] = 0x4B := by decide +kernel

/-- R187: code, tag, then each word most significant byte first. -/
theorem test_frame_layout :
    (frameBytes FrameKind.loadRow.code 9 ⟨0x0002, 0x0003, 0x01F4, 0xABCD⟩).take 10 = [0x52, 9, 0, 2, 0, 3, 1, 0xF4, 0xAB, 0xCD] := by
  decide

/-- Chapter 10.7, frame 1: IDENTIFY with the roles in port order. -/
theorem test_identify_words :
    held (after (.identify .p2 1 zeroWords) State.reset) .p2 = ⟨.ok, 1, ⟨0x3260, 0x0100, 0x3210, 0xC61B⟩⟩ := by decide

/-- R194: VEHICLE, ENGINE, ENGINE, BATTERY disable port 2, and the strap map reads 0x3510. -/
theorem test_duplicate_role_strap_map :
    let low : State := { State.reset with rstN := false }
    let t := after (.rstNReleased ⟨⟨false, false⟩, ⟨false, true⟩, ⟨false, true⟩, ⟨true, true⟩⟩ false (.all false)) low
    strapMap t.ports = 0x3510 ∧ held (after (.nop .p2 7 zeroWords) t) .p2 = ⟨.portDisabled, 7, zeroWords⟩ := by decide

/-- Chapter 10.7, frames 5 and 6: a report of another role's kind, and a frame of nine bytes; raw codes 10 and 11. -/
theorem test_mismatch_and_short_frame :
    let t := after (.frameRefused .p2 [0x01, 6, 0, 0, 0, 0, 0, 0, 0] []) (after (.vehicleReport .p2 5 zeroWords) State.reset)
    held t .p2 = ⟨.lengthError, 6, zeroWords⟩ ∧ t.ntc.p2.raw = 0x0C00 ∧ t.ntc.p0.raw = 0 := by decide

/-- Chapter 10.7, frame 7: raw 0x8C00 and repeat 0x0800 with every kind enabled. -/
theorem test_read_notices_words :
    let s : State := { State.reset with ntc := State.reset.ntc.set .p2 ⟨0x8C00, 0x0800, 0xFFFF⟩ }
    held (after (.readNotices .p2 7 zeroWords) s) .p2 = ⟨.ok, 7, ⟨0x8C00, 0x0800, 0x8C00, 0xFFFF⟩⟩ := by decide

/-! ### Sources and envelopes (chapters 1 and 2) -/

/-- Chapter 2.5, period 2: the battery's DECLARE is clamped in its third field and the source becomes LAPSED. -/
theorem test_declare_battery_clamps :
    let t := after (.declareBattery .p3 2 (words 1800 900 250 4)) State.reset
    held t .p3 = ⟨.okClamped, 2, words 1800 900 200 4⟩ ∧ t.src.battery = source .lapsed 0 ∧ t.ntc.p0.raw = 0x8000 := by
  decide

/-- Chapter 2.5, period 41: max charge lowered to 400 and F to 2 re-clip the held Pchg and lower the counter from 3 to 2. -/
theorem test_declare_battery_reclips :
    let s : State := { State.reset with env := { State.reset.env with battery := ⟨1800, 900, 200, 4⟩ }
                                        src := { State.reset.src with battery := source .fresh 3 }
                                        heldVals := { Held.reset with battery := ⟨520, 1500, 650, 35⟩ } }
    let t := after (.declareBattery .p3 1 (words 1800 400 200 2)) s
    t.heldVals.battery = ⟨520, 1500, 400, 35⟩ ∧ t.src.battery = { source .fresh 2 with clipped := true }
      ∧ (held t .p3).result = .ok := by decide

/-- Chapter 2.5, period 42: a Pchg of 650 against a max charge of 400. -/
theorem test_battery_report_clips :
    let s : State := { State.reset with env := { State.reset.env with battery := ⟨1800, 400, 200, 2⟩ }
                                        src := { State.reset.src with battery := source .fresh 1 } }
    let t := after (.batteryReport .p3 3 (words 520 1500 650 35)) s
    held t .p3 = ⟨.okClamped, 3, words 520 1500 400 35⟩ ∧ t.src.battery = { source .fresh 2 with clipped := true } := by
  decide

/-- R4: clutch code 3 is read as SLIPPING and counts as clamped; a demand of −2000 is clamped to −1000. -/
theorem test_wire_clamps :
    clutchStateOf 0x0C = (.slipping, true) ∧ reportField (-1000) 1000 (-1000) 1000 (word (-2000)) = (-1000, true) := by
  decide

/-- Chapter 1.3: a third counted on-time report makes the source FRESH (R9). -/
theorem test_requalification :
    let s : State := { driven .idle with src := { (driven .idle).src with motor := { source .lapsed 1 with requal := 2 } } }
    (after (.motorReport .p2 4 (words 0 250 200 1000)) s).src.motor = source .fresh 3 := by decide

/-! ### Speed (chapter 3) -/

/-- R42: ring counts 15, 16, 15, 16 with 60 teeth and W of 4 give 1550 rpm; a count of 255 with 30 teeth and W of 1 saturates. -/
theorem test_pulse_speed : pulseSpeed 4 60 [15, 16, 15, 16, 0, 0, 0, 0] = 1550 ∧ pulseSpeed 1 30 [255, 0, 0, 0, 0, 0, 0, 0] = 9000 := by
  decide

/-- The four rows of R44's table. -/
theorem test_plausibility_table :
    disagrees 0 120 = false ∧ disagrees 2200 2000 = false ∧ disagrees 1125 1500 = true ∧ disagrees 6300 7100 = false := by
  decide

/-- R38: with the rejector on, the third sample of a new level is an edge; polarity 0 counts falling edges. -/
theorem test_third_sample_is_an_edge :
    let u : Spd := { Spd.reset true with candidate := 2 }
    (u.sample .defaults false).filtered = false ∧ (u.sample .defaults false).count = 1 ∧ (u.sample .defaults true).candidate = 0 := by
  decide

/-! ### Split (chapter 6) -/

/-- R113's table for the line. -/
theorem test_line_table :
    [600, 1800, 1810, 2550, 4025, 5000].map (interpolate CalSet.defaults.line.toList) = [60, 138, 139, 171, 169, 160] := by
  decide

/-- R113's table for the offset curve. -/
theorem test_offset_table : [298, 420, 700].map (interpolate CalSet.defaults.offset.toList) = [40, 12, 0] := by decide

/-- Chapter 6.14, HYBRID propelling. -/
theorem test_worked_case_1 :
    (splitCase .hybrid .coupled 320 2000 ⟨500, 600, 300, 25⟩ 250 200 260 35 140 150).out
      = { td := 320, te := 150, tm := 170, tb := 0, tu := 0, tmHi := 250, tmLo := -168, teHi := 260, teLo := -35, pBatt := 413
          motorTerm := 388, nSel := 2000 } := by decide

/-- Chapter 6.15, ELECTRIC braking on a cold battery. -/
theorem test_worked_case_2 :
    (splitCase .electric .off (-250) 1500 ⟨500, 800, 150, 20⟩ 250 200 0 0 0 (-120)).out
      = { td := -250, te := 0, tm := -117, tb := -133, tu := 0, tmHi := 250, tmLo := -117, teHi := 0, teLo := 0, pBatt := -150
          motorTerm := -170, nSel := 1500 } := by decide

/-- R106: with a ramp of 50, 30 reaches 0 in the first record and 400 loses 50. -/
theorem test_decay : decay 30 50 = 0 ∧ decay 400 50 = 350 ∧ decay (-30) 50 = 0 ∧ decay (-120) 50 = -70 := by decide

/-! ### Modes, sequencer, calibration, notices -/

/-- R85: a third failed start with the default retry limit of 2 stands at 3, and R86 makes the engine UNAVAILABLE at OFF. -/
theorem test_third_failure_is_final :
    let q : Seq := { Seq.reset with state := .crankWait, timer := 1, attempts := 2 }
    let r := q.fail .defaults .crankTimeout
    r.attempts = 3 ∧ r.state = .offWait ∧ r.timer = 200 ∧ (r.reachOff .defaults).seq.avail = .unavailable := by decide

/-- R96 and R156: a crank timeout of 150 with 100 spent leaves 50; a new row of 60 is below the time spent, so the start times out at
SEQ's stage of that boundary, unless its snapshot reads RUNNING; a new row of 120 leaves the timer at 50 (log 23). With that row in
force and 125 spent, a commit that keeps it, and one that raises it, leaves the timer at 25. -/
theorem test_timeout_lowered_below_the_time_spent :
    let q : Seq := { Seq.reset with state := .crankWait, timer := 50, spent := 100 }
    let at_ (e : EngineState) (row : Int) : Seq :=
      ({ snap := (shown (driven .seq) true false e).snap, nSel := 0, te := 0, cal := .defaults : SeqInput }.step none
        (q.adjust .defaults (CalSet.defaults.load (.thr 15) row 0))).seq
    let later (row : Int) : Seq := { q with timer := 25, spent := 125 }.adjust (CalSet.defaults.load (.thr 15) 120 0)
      ((CalSet.defaults.load (.thr 15) row 0).load (.thr 0) 200 0)
    ((at_ .cranking 60).state = .offWait ∧ (at_ .cranking 60).lastReason = .crankTimeout)
    ∧ (at_ .running 60).state = .speedSync
    ∧ ((at_ .cranking 120).state = .crankWait ∧ (at_ .cranking 120).timer = 49 ∧ (at_ .cranking 120).spent = 101)
    ∧ (later 120).timer = 25 ∧ (later 122).timer = 25 ∧ (later 119).timer = 1 := by decide

/-- Chapter 5.9, snapshot 704: OPEN from a source not LAPSED ends the release although the engine reads FAULT. -/
theorem test_release_completes_under_fault :
    let s := after .sequencerStage (shown (moded .seq .stopping .clutchRelease) true false .fault)
    s.seq.state = .offWait ∧ s.seq.avail = .unavailable ∧ s.seq.lastReason = .fault ∧ s.modeCtl.mode = .stopping := by decide

/-- Chapter 8.7, B900: charge-off 650 above SoC stop 600 fails check 4. -/
theorem test_validation_thresholds :
    (CalSet.defaults.load (.thr 3) 650 0).validate = .thresholds ∧ (CalSet.defaults.load (.thr 3) 500 0).validate = .none := by
  decide

/-- Chapter 8.7: port 0's CLAIM while the battery's port 3 holds the claim names the holder's role. -/
theorem test_claim_held_names_the_holder :
    let s := after (.claim .p3 1 zeroWords) State.reset
    (held s .p3).result = .ok ∧ held (after (.claim .p0 1 zeroWords) s) .p0 = ⟨.held, 1, ⟨0, 0, 0, 7⟩⟩ := by decide

/-- Chapter 9.6: with MODE_CHANGED disabled and raw, enabling it asserts the line at once. -/
theorem test_enable_asserts_the_line :
    let s : State := { State.reset with ntc := State.reset.ntc.set .p0 ⟨0x0002, 0, 0xFFFD⟩ }
    s.attn .p0 = false ∧ (after (.setNoticeEnable .p0 1 (words (-1) 0 0 0)) s).attn .p0 = true := by decide

/-- R190: HYBRID with COUPLED, both paths available, DEFAULT is 4 + 8·4 + 64; its command word is RUN, CLOSE, 16·4. -/
theorem test_packed_words :
    let r : SplitRecord := { SplitRecord.reset with mode := .hybrid, seqState := .coupled, engineCmd := .run, clutchCmd := .close
                                                    electricAvail := true }
    r.modeWord = 100 ∧ r.commandWord = 75 := by decide

/-! ### Witnesses: the hypotheses of each statement hold together, clause by clause -/

/-- The reset state held in reset. -/
def low : State := { State.reset with rstN := false }

/-- The reset state with port 2 disabled. -/
def disabled2 : State := { State.reset with ports := State.reset.ports.set .p2 { State.reset.ports.p2 with disabled := true } }

theorem witness_StepRunsFrontCommand : ({ State.reset with pending := [.snapshot, .modeDecision] } : State).pending
    = .snapshot :: [.modeDecision] := rfl

theorem witness_IdleStepIsOneClockCycle :
    let s (n m k : Nat) (high : Bool) : State :=
      { State.reset with sampleDiv := n, tmr := m, epochPin := high, epochTimer := k }
    (low.pending = [] ∧ low.stage = .idle ∧ low.rstN = false)
    ∧ ∀ n m k high, (s n m k high).pending = [] ∧ (s n m k high).stage = .idle ∧ (s n m k high).rstN = true
      ∧ (s n m k high).sampleDiv = n ∧ (s n m k high).tmr = m ∧ (s n m k high).epochTimer = k ∧ (s n m k high).epochPin = high :=
  ⟨⟨rfl, rfl, rfl⟩, fun _ _ _ _ => ⟨rfl, rfl, rfl, rfl, rfl, rfl, rfl⟩⟩

theorem witness_ClockRunsAnOperationEachPeriod :
    (State.reset.pending = [] ∧ State.reset.rstN = true ∧ State.reset.stage = .idle ∧ State.reset.tmr = 79999 + 1)
    ∧ ((due .src).pending = [] ∧ (due .src).rstN = true ∧ (due .src).stage = .src ∧ 6 < (due .src).tmr)
    ∧ (let s : State := { State.reset with epochPin := true, epochTimer := 159 + 1 }
       s.pending = [] ∧ s.rstN = true ∧ s.stage = .idle ∧ s.epochPin = true ∧ s.epochTimer = 159 + 1 ∧ 159 + 1 < s.tmr) := by decide

theorem witness_NothingRunsInReset : low.rstN = false ∧ low.epochPin = false ∧ low.epochTimer = 0 ∧ Instr.snapshot ≠ .rstNAsserted
    ∧ ∀ straps spd psel, Instr.snapshot ≠ .rstNReleased straps spd psel :=
  ⟨rfl, rfl, rfl, by decide, fun _ _ _ h => nomatch h⟩

theorem witness_WaitingPortIgnoresFrames :
    let s : State := { State.reset with ports := State.reset.ports.set .p1 { State.reset.ports.p1 with pselWait := true } }
    s.rstN = true ∧ (s.ports.get .p1).pselWait = true ∧ (s.ports.get .p0).pselWait = false ∧ port (.nop .p1 0 zeroWords) = some .p1 :=
  ⟨rfl, rfl, rfl, rfl⟩

/-- Every port of the reset state is live and enabled: what FrameBeginStartsTheHeldResponse, GrantViewsAndPages, ClaimReleaseCommit,
LoadRowReplacesOneStagedRow, ReadRowReadsEitherSet, ReadNoticesAndSetEnable and ClearNotices ask of a port. -/
theorem witness_live_and_enabled (p : PortId) : State.reset.Live p ∧ State.reset.Enabled p := by cases p <;> exact ⟨⟨rfl, rfl⟩, rfl⟩

theorem witness_RefusedFrameIsAnswered :
    disabled2.Live .p2 ∧ (disabled2.ports.get .p2).disabled = true ∧ Instr.wellFormed (.frameRefused .p2 [] [true]) = true
    ∧ ([0, 0, 0, 0, 0, 0, 0, 0, 0, 0] : List Byte).length ≠ 11
    ∧ (List.replicate 11 (0 : Byte)) = List.replicate 10 0 ++ [0] ∧ (0 : Byte) ≠ crc8 (List.replicate 10 0)
    ∧ ∀ k : FrameKind, (List.replicate 10 (0 : Byte)).getD 0 0 ≠ k.code := by
  refine ⟨⟨rfl, rfl⟩, rfl, rfl, by decide, by decide, by decide +kernel, fun k => by cases k <;> decide⟩

theorem witness_AdmissionByPortAndRole : disabled2.Live .p2 ∧ (disabled2.ports.get .p2).disabled = true
    ∧ boundRole .vehicleReport = some .vehicle ∧ (State.reset.ports.get .p2).role ≠ .vehicle :=
  ⟨⟨rfl, rfl⟩, rfl, rfl, by decide⟩

theorem witness_OnlyItsOwnFramesChangeAPort : (∃ t, exec (.nop .p0 1 zeroWords) State.reset = .next t)
    ∧ port (.nop .p0 1 zeroWords) ≠ some .p1 ∧ port .publication ≠ some .p1 := ⟨⟨_, rfl⟩, by decide, by decide⟩

/-- The reset state admits every kind without a role on port 0, and each role's report and DECLARE on the port of its role: what
NopAndIdentify, ReadStatusLayouts and ReportIsRefusedOnlyWhenUndeclared ask. -/
theorem witness_admits :
    State.reset.Admits .nop .p0 ∧ State.reset.Admits .identify .p0 ∧ State.reset.Admits .readStatus .p0
    ∧ State.reset.Admits (reportKind .vehicle) .p0 ∧ State.reset.Admits (reportKind .engine) .p1
    ∧ State.reset.Admits (reportKind .motor) .p2 ∧ State.reset.Admits (reportKind .battery) .p3
    ∧ State.reset.Admits (declareKind .vehicle) .p0 ∧ State.reset.Admits (declareKind .engine) .p1
    ∧ State.reset.Admits (declareKind .motor) .p2 ∧ State.reset.Admits (declareKind .battery) .p3 := by
  refine ⟨?_, ?_, ?_, ?_, ?_, ?_, ?_, ?_, ?_, ?_, ?_⟩ <;>
    exact ⟨⟨rfl, rfl⟩, rfl, fun r h => by cases h <;> rfl⟩

/-- Each selector clause of READ_STATUS has its words. -/
theorem witness_ReadStatusLayouts :
    (words 0 0 0 0).w0.toNat = Role.vehicle.code ∧ (words 3 0 0 0).w0.toNat = Role.battery.code ∧ (words 4 0 0 0).w0.toNat = 4
    ∧ (words 5 0 0 0).w0.toNat = 5 ∧ (words 6 0 0 0).w0.toNat = 6 ∧ (words 7 0 0 0).w0.toNat = 7 + Role.vehicle.code
    ∧ (words 10 0 0 0).w0.toNat = 7 + Role.battery.code ∧ 10 < (words 11 0 0 0).w0.toNat
    ∧ ({ SourceCtl.reset with requal := 2 } : SourceCtl).requal ≤ 2 ∧ State.reset.seq.attempts ≤ 255 := by decide

/-- The states of a source that an accepted report finds, with the counts where its clauses meet; UNDECLARED is the reset state's. -/
theorem witness_AcceptedReportUpdatesItsRecord :
    (State.reset.src.get .motor).state = .undeclared ∧ (source .fresh 2).state = .fresh ∧ (source .aged 0).state = .aged
    ∧ (let c : SourceCtl := { source .lapsed 2 with requal := 1 }
       c.state = .lapsed ∧ c.counted = false ∧ c.requal < 2)
    ∧ (let c : SourceCtl := { source .lapsed 2 with requal := 2 }
       c.state = .lapsed ∧ c.counted = false ∧ 2 ≤ c.requal)
    ∧ (let c : SourceCtl := { source .lapsed 2 with counted := true }
       c.state = .lapsed ∧ c.counted = true) := by decide

/-- The hypotheses of AcceptedReportUpdatesItsRecord, of the two statements on report fields and of DeclareTakenInInitOrParked. -/
theorem witness_reports_and_declares (st : Stage) :
    (∀ r, ((driven st).src.get r).state ≠ .undeclared) ∧ EnvelopesInRange (driven st).env ∧ (driven st).record.mode = .init
    ∧ (driven st).Admits .vehicleReport .p0 ∧ (driven st).Admits .engineReport .p1 ∧ (driven st).Admits .motorReport .p2
    ∧ (driven st).Admits .batteryReport .p3 := by
  refine ⟨fun r => by cases r <;> exact (nofun : Freshness.fresh ≠ .undeclared), ?_, rfl, ?_, ?_, ?_, ?_⟩
  · constructor <;> simp [Between, driven]
  all_goals exact ⟨⟨rfl, rfl⟩, rfl, fun r h => by cases h; rfl⟩

theorem witness_DeclareRefusedInOtherModes :
    let s : State := { driven .idle with record := { SplitRecord.reset with mode := .safe } }
    s.Admits (declareKind .motor) .p2 ∧ s.record.mode ≠ .init ∧ s.record.mode ≠ .parked :=
  ⟨⟨⟨rfl, rfl⟩, rfl, fun r h => by cases h; rfl⟩, by decide, by decide⟩

theorem witness_RequestInFlightLeavesTheRecord : ∃ t u v, fromPort (.motorReport .p2 1 (words 0 1 1 1)) ∧ (driven .src).stage ≠ .idle
    ∧ exec (.motorReport .p2 1 (words 0 1 1 1)) (driven .src) = .next t ∧ Runs laterStages (driven .src) u ∧ Runs laterStages t v :=
  ⟨_, _, _, by simp [fromPort, port], by decide, rfl, ⟨_, rfl, _, rfl, _, rfl, _, rfl, _, rfl, _, rfl, rfl⟩,
    ⟨_, rfl, _, rfl, _, rfl, _, rfl, _, rfl, _, rfl, rfl⟩⟩

/-- Port 2, of the motor's role, holds the claim with a commit pending, and the AGED motor source's hold runs out at this boundary. -/
def lapsing : State :=
  { driven .src with
    src := (driven .src).src.set .motor { source .aged 0 with hold := 1 }
    cal := { Cal.reset with claim := some ⟨.p2, .defaults, true⟩ } }

/-- Each clause of the boundary update and of the expiries, at the counter values where they meet; a lapse that takes the claim. -/
theorem witness_SnapshotUpdatesTheSources :
    (driven .src).rstN = true ∧ (driven .src).stage = .src ∧ (driven .src).snapDone = .all false ∧ 0 ≤ (driven .src).env.vehicle.e2
    ∧ ((source .fresh 2).state = .fresh ∧ 1 < (source .fresh 2).fresh) ∧ ((source .fresh 1).state = .fresh ∧ (source .fresh 1).fresh ≤ 1)
    ∧ (let c : SourceCtl := { source .aged 0 with hold := 2 }
       c.state = .aged ∧ 1 < c.hold)
    ∧ (let c : SourceCtl := { source .aged 0 with hold := 1 }
       c.state = .aged ∧ c.hold ≤ 1)
    ∧ ((source .lapsed 1).state = .lapsed ∧ (source .lapsed 1).fresh = 1)
    ∧ ((source .lapsed 2).state = .lapsed ∧ (source .lapsed 2).fresh ≠ 1)
    ∧ (lapsing.cal.claim = some ⟨.p2, .defaults, true⟩ ∧ (lapsing.src.get (lapsing.ports.get .p2).role).state = .aged
      ∧ ((after .snapshot lapsing).src.get (lapsing.ports.get .p2).role).state = .lapsed) := by decide

theorem witness_ExpiriesActWhenDue :
    (driven .src).rstN = true ∧ (driven .src).stage = .src ∧ (driven .src).snapDone.get .motor = false ∧ (driven .idle).stage ≠ .src
    ∧ (∃ t, exec (.holdExpiry .motor) (driven .src) = .next t)
    ∧ (let m : Claim := ⟨.p2, .defaults, true⟩
       ((driven .src).ports.get m.holder).role = .motor ∧ ((driven .src).ports.get m.holder).role ≠ .battery) :=
  ⟨rfl, rfl, rfl, by decide, ⟨_, rfl⟩, by decide⟩

theorem witness_SpdSampleFiltersEdges :
    let s (options : Int) (n : Nat) : State :=
      { State.reset with spd := { Spd.reset false with candidate := n }
                         cal := { Cal.reset with active := CalSet.defaults.load (.thr 24) options 0 } }
    (s 0 0).rstN = true ∧ true ≠ (s 0 0).spd.filtered ∧ false = (s 0 0).spd.filtered
    ∧ ((s 0 1).cal.active.pulseOptions = 0 ∧ (s 0 1).spd.candidate < 2) ∧ ((s 1 2).cal.active.pulseOptions = 1 ∧ 2 ≤ (s 1 2).spd.candidate)
    ∧ ¬ ((s 2 0).cal.active.pulseOptions = 0 ∨ (s 2 0).cal.active.pulseOptions = 1)
    ∧ ¬ ((s 3 0).cal.active.pulseOptions = 0 ∨ (s 3 0).cal.active.pulseOptions = 1) ∧ (s 0 0).spd.candidate = 0 := by decide

/-- Each clause of the speed unit's stage: lapsed motor; agreeing and disagreeing, with the runs either side of the dwell of 10. -/
theorem witness_SpeedUnitStageSelectsTheSpeed :
    (driven .spd).rstN = true ∧ (driven .spd).stage = .spd ∧ (due .spd).snap.state.motor = .lapsed
    ∧ (driven .spd).snap.motor.speed = some 1800 ∧ (driven .spd).snap.state.motor ≠ .lapsed
    ∧ (driven .spd).cal.active.plausDwell = 10 ∧ min 100 (8 + 1) < 10 ∧ 10 ≤ min 100 (9 + 1)
    ∧ max 150 (max (0 : Int) 1800 / 8) < |(0 : Int) - 1800| ∧ ¬ (max 150 (max (0 : Int) 150 / 8) < |(0 : Int) - 150|) := by
  decide

theorem witness_ModeDecisionFlagsAndRuns :
    (driven .mode).rstN = true ∧ (driven .mode).stage = .mode
    ∧ (let s : State := { due .mode with seq := { Seq.reset with avail := .cooling }
                                         snap := { Snapshot.reset with state := { Snapshot.reset.state with engine := .aged } } }
       s.seq.avail = .cooling ∧ ¬ s.ElectricPath ∧ s.Present .engine)
    ∧ (let s : State := { moded .mode .hybrid .coupled with snap := { (driven .mode).snap with battery := ⟨600, 600, 300, 25⟩ }
                                                            record := { SplitRecord.reset with tmHi := 250 } }
       s.modeCtl.mode = .hybrid ∧ s.DwellStop) := by
  refine ⟨rfl, rfl, ?_, ?_⟩
  · unfold State.ElectricPath State.Present; decide
  · unfold State.DwellStop State.ElectricPath State.Present; decide

/-- INIT ready and not, PARKED with SAFE entry and without, SAFE with its exit proved and not. -/
theorem witness_DecisionInStandingModes :
    (∀ m q, (moded .mode m q).rstN = true ∧ (moded .mode m q).stage = .mode ∧ (moded .mode m q).modeCtl.mode = m)
    ∧ ((∀ r, (driven .mode).snap.state.get r = .fresh) ∧ (driven .mode).snap.vehicle.drive = false)
    ∧ ((due .mode).SafeEntry ∧ ¬ (driven .mode).SafeEntry)
    ∧ ((driven .mode).snap.state.vehicle = .fresh ∧ (driven .mode).ElectricPath ∧ (driven .mode).EnginePath
        ∧ (moded .mode .safe .off).seq.state = .off)
    ∧ (moded .mode .safe .offWait).seq.state ≠ .off := by
  refine ⟨fun m q => ⟨rfl, rfl, rfl⟩, ⟨fun r => by cases r <;> rfl, rfl⟩, ?_, ?_, by decide⟩
  · unfold State.SafeEntry State.EnginePath State.ElectricPath State.Present; decide
  · unfold State.EnginePath State.ElectricPath State.Present; decide

/-- ELECTRIC with the sequencer OFF, at an SoC, with drive and the zone. -/
def gliding (soc : Int) (drive zone : Bool) : State :=
  { shown (moded .mode .electric .off) drive zone .off with
    snap := { (shown (moded .mode .electric .off) drive zone .off).snap with battery := ⟨soc, 600, 300, 25⟩ } }

/-- ELECTRIC: a trigger (SoC at SoC start) and none; STARTING: the zone effective and not; drive disabled and enabled in each. -/
theorem witness_DecisionInElectricAndStarting :
    (¬ (gliding 300 true false).SafeEntry ∧ (gliding 300 true false).EnginePath ∧ (gliding 300 true false).Trigger)
    ∧ (¬ (gliding 301 true false).SafeEntry ∧ ¬ (gliding 301 true false).Trigger)
    ∧ (¬ (gliding 300 true true).Trigger ∧ (gliding 300 true true).ZoneEffective)
    ∧ ((gliding 150 true true).Trigger ∧ ¬ (gliding 150 true true).ZoneEffective)
    ∧ (gliding 300 false false).snap.vehicle.drive = false := by
  unfold State.Trigger State.GatedTrigger State.ZoneEffective State.Breach State.SafeEntry State.EnginePath State.ElectricPath
    State.Present State.startRunNow
  and_intros <;> decide

/-- HYBRID with a light demand below half of a Tm_hi of 250, at an SoC and with a stop dwell run. -/
def cruising (soc : Int) (run : Nat) : State :=
  { shown (moded .mode .hybrid .coupled) true false .running with
    snap := { (shown (moded .mode .hybrid .coupled) true false .running).snap with battery := ⟨soc, 600, 300, 25⟩ }
    record := { SplitRecord.reset with tmHi := 250 }, modeCtl := { ModeCtl.reset with mode := .hybrid, stopRun := run } }

/-- HYBRID and CHARGE: an immediate cause with and without FAULT and SAFE entry; a complete stop dwell run; neither. -/
theorem witness_DecisionInHybridAndCharge :
    (¬ (cruising 520 0).ImmediateStop ∧ ¬ (cruising 520 0).DwellStop)
    ∧ ((cruising 600 299).DwellStop ∧ (cruising 600 299).cal.active.stopDwell ≤ min 3000 (299 + 1))
    ∧ ¬ ((cruising 600 298).cal.active.stopDwell ≤ min 3000 (298 + 1))
    ∧ ((shown (moded .mode .charge .coupled) true false .fault).ImmediateStop
        ∧ ¬ (shown (moded .mode .charge .coupled) true false .fault).SafeEntry)
    ∧ ((shown (moded .mode .charge .coupled) false false .running).ImmediateStop
        ∧ ¬ (shown (moded .mode .charge .coupled) false false .running).SafeEntry)
    ∧ ({ due .mode with modeCtl := { ModeCtl.reset with mode := .hybrid } } : State).SafeEntry := by
  unfold State.ImmediateStop State.DwellStop State.ZoneEffective State.Breach State.SafeEntry State.EnginePath State.ElectricPath
    State.Present
  and_intros <;> decide

/-- STOPPING by a dwell stop in UNLOAD, with or without a force-engine request and drive. -/
def unloading (force drive : Bool) : State :=
  { shown (moded .mode .stopping .unload) drive false .running with
    snap := { (shown (moded .mode .stopping .unload) drive false .running).snap with
              engine := { (driven .mode).snap.engine with state := .running, force := force } }
    modeCtl := { ModeCtl.reset with mode := .stopping, stopKind := .dwell, stopDest := .electric } }

/-- STOPPING: a dwell stop that a force-engine request cancels, and one that nothing cancels. -/
theorem witness_DecisionInStopping :
    ((unloading true true).seq.state = .unload ∧ (unloading true true).snap.vehicle.drive = true ∧ ¬ (unloading true true).ZoneEffective
        ∧ (unloading true true).modeCtl.stopKind = .dwell ∧ (unloading true true).EnginePath ∧ (unloading true true).GatedTrigger
        ∧ ¬ (unloading true true).SafeEntry)
    ∧ ¬ (unloading false true).GatedTrigger ∧ (unloading true false).snap.vehicle.drive = false := by
  unfold State.GatedTrigger State.ZoneEffective State.Breach State.SafeEntry State.EnginePath State.ElectricPath State.Present
    State.startRunNow
  and_intros <;> decide

/-- A start in flight with the zone effective, in a state with the pairs of chapter 4.1, run to its publication: also the hypotheses
of OnlyTheseModeChanges. -/
theorem witness_NoStartCommandInAnEffectiveZone :
    let s := shown (moded .mode .starting .crankWait) true true .cranking
    s.Paired ∧ s.rstN = true ∧ s.stage = .mode ∧ s.ZoneEffective
    ∧ ∃ t, Runs [.modeDecision, .sequencerStage, .splitStage, .publication] s t := by
  refine ⟨⟨rfl, ⟨rfl, rfl⟩, nofun, fun _ => rfl, ⟨rfl, rfl⟩⟩, rfl, rfl, ?_, _, _, rfl, _, rfl, _, rfl, _, rfl, rfl⟩
  unfold State.ZoneEffective State.Breach State.ElectricPath State.Present; decide

/-- The hypotheses of the sequencer statements: each state with each request, and with none. -/
theorem witness_SequencerTakesRequests (q : SeqState) (r : Option Request) :
    let s : State := { moded .seq .stopping q with request := r }
    s.rstN = true ∧ s.stage = .seq ∧ s.seq.avail ≠ .cooling ∧ s.request = r ∧ s.seq.state = q :=
  ⟨rfl, rfl, (nofun : Avail.available ≠ .cooling), rfl, rfl⟩

theorem witness_FaultMovesTheSequencer (q : SeqState) :
    let s := shown (moded .seq .starting q) true false .fault
    s.rstN = true ∧ s.stage = .seq ∧ s.seq.avail ≠ .cooling ∧ s.request = none ∧ s.snap.engine.state = .fault ∧ s.seq.state = q :=
  ⟨rfl, rfl, (nofun : Avail.available ≠ .cooling), rfl, rfl, rfl⟩

/-- Each start state with progress and without, at the edges of the sync band and the sync dwell. -/
theorem witness_StartProgresses :
    let s (n : Int) : State := { shown (moded .seq .starting .speedSync) true false .running with spd := { Spd.reset false with nSel := n } }
    (∀ n, (s n).rstN = true ∧ (s n).stage = .seq ∧ (s n).seq.avail ≠ .cooling ∧ (s n).request = none
      ∧ (s n).snap.engine.state ≠ .fault)
    ∧ |(s 100).snap.engine.speed - (s 100).spd.nSel| ≤ (s 100).cal.active.syncBand
    ∧ ¬ (|(s 101).snap.engine.speed - (s 101).spd.nSel| ≤ (s 101).cal.active.syncBand)
    ∧ CalSet.defaults.syncDwell ≤ min 50 (4 + 1) ∧ min 50 (3 + 1) < CalSet.defaults.syncDwell
    ∧ (shown (moded .seq .starting .crankWait) true false .cranking).snap.engine.state ≠ .running :=
  ⟨fun _ => ⟨rfl, rfl, (nofun : Avail.available ≠ .cooling), rfl, (nofun : EngineState.running ≠ .fault)⟩, by decide, by decide, by decide, by decide, by decide⟩

/-- Each stop state with each reading, FAULT included, with progress and without; a pending failure at the retry limit of 2 and above it; a restore. -/
theorem witness_StopProgresses :
    (∀ q e, let s := shown (moded .seq .stopping q) true false e
      s.rstN = true ∧ s.stage = .seq ∧ s.seq.avail ≠ .cooling ∧ s.request = none ∧ s.seq.state = q ∧ s.snap.engine.state = e)
    ∧ ((driven .seq).snap.engine.clutch = .opened ∧ (driven .seq).Present .engine) ∧ ¬ (due .seq).Present .engine
    ∧ (2 ≤ CalSet.defaults.retryLimit ∧ CalSet.defaults.retryLimit < 3) ∧ (driven .seq).record.te = 0
    ∧ (driven .seq).snap.engine.state = .off ∧ (driven .seq).snap.engine.ready = true := by
  refine ⟨fun q e => ⟨rfl, rfl, (nofun : Avail.available ≠ .cooling), rfl, rfl, rfl⟩, ?_, ?_, by decide, rfl, rfl, rfl⟩ <;>
    (unfold State.Present; decide)

/-- A wait at its last period: each state's snapshot stands, the band's edge and FAULT included. -/
def lastPeriod (q : SeqState) (e : EngineState) (c : ClutchState) (n : Int) : State :=
  { shown (moded .seq .starting q) true false e with
    seq := { Seq.reset with state := q, timer := 1 }
    snap := { (shown (moded .seq .starting q) true false e).snap with
      engine := { (shown (moded .seq .starting q) true false e).snap.engine with clutch := c } }
    spd := { Spd.reset false with nSel := n } }

theorem witness_WaitsTimeOut :
    (∀ q e c n, let s := lastPeriod q e c n
      s.rstN = true ∧ s.stage = .seq ∧ s.request = none ∧ s.seq.avail ≠ .cooling ∧ s.seq.timer = 1)
    ∧ (lastPeriod .crankWait .cranking .opened 0).seqInput.Stands 0 .crankWait
    ∧ (lastPeriod .speedSync .running .opened 101).seqInput.Stands 0 .speedSync
    ∧ (lastPeriod .speedSync .running .opened 100).seqInput.Stands 3 .speedSync
    ∧ ¬ (lastPeriod .speedSync .running .opened 100).seqInput.Stands 4 .speedSync
    ∧ (lastPeriod .clutchWait .running .opened 0).seqInput.Stands 0 .clutchWait
    ∧ (lastPeriod .clutchRelease .fault .closed 0).seqInput.Stands 0 .clutchRelease
    ∧ (lastPeriod .offWait .fault .opened 0).seqInput.Stands 0 .offWait
    ∧ ¬ (lastPeriod .crankWait .running .opened 0).seqInput.Stands 0 .crankWait := by
  refine ⟨fun q e c n => ⟨rfl, rfl, rfl, (nofun : Avail.available ≠ .cooling), rfl⟩, ?_⟩
  unfold SeqInput.Stands SeqInput.runNow; decide

theorem witness_CoolOffCountsDown (n : Nat) :
    let s : State := { due .seq with seq := { Seq.reset with avail := .cooling, coolOff := n } }
    s.rstN = true ∧ s.stage = .seq ∧ s.request = none ∧ s.seq.state = .off ∧ s.seq.avail = .cooling ∧ s.seq.coolOff = n :=
  ⟨rfl, rfl, rfl, rfl, rfl, rfl⟩

/-- A wait of two periods that two snapshots leave standing, the second with a FAULT; and a commit that lowers the row of 200 below the
time spent, one that lowers it to the time spent, and one that keeps it. -/
theorem witness_AWaitLastsItsTimeout :
    let i : SeqInput := (lastPeriod .offWait .running .opened 0).seqInput
    let j : SeqInput := (lastPeriod .offWait .fault .opened 0).seqInput
    let q : Seq := { Seq.reset with state := .offWait, timer := 2, spent := 100 }
    let c (row : Int) : CalSet := CalSet.defaults.load (.thr 21) row 0
    q.avail ≠ .cooling ∧ 0 < q.timer ∧ (∀ (m : Nat) (k : SeqInput), [i, j][m]? = some k → ∀ run, k.Stands run q.state)
      ∧ (c 99).validate = .none ∧ (c 99).timeoutOf q.state < CalSet.defaults.timeoutOf q.state
      ∧ (c 99).timeoutOf q.state < q.spent ∧ (c 100).validate = .none ∧ ¬ (c 100).timeoutOf q.state < q.spent
      ∧ (c 200).timeoutOf q.state = CalSet.defaults.timeoutOf q.state := by
  refine ⟨by decide, by decide, fun m k h run => ?_, by decide, by decide, by decide, by decide, by decide, by decide⟩
  have : k ∈ [(lastPeriod .offWait .running .opened 0).seqInput, (lastPeriod .offWait .fault .opened 0).seqInput] :=
    List.mem_of_getElem? h
  simp only [List.mem_cons, List.not_mem_nil, or_false] at this
  rcases this with rfl | rfl
  · exact (nofun : EngineState.running ≠ .off)
  · exact (nofun : EngineState.fault ≠ .off)

/-- The driven states are in range: the hypotheses of SplitStageSharesTheDemand, BatteryPredictionWithinLimits and
StepKeepsTheRanges. -/
theorem witness_Bounded (st : Stage) (m : Mode) (q : SeqState) : (moded st m q).Bounded where
  cal := show CalSet.defaults.validate = .none by decide
  env := by constructor <;> simp [Between, moded, driven]
  envCopy := by constructor <;> simp [Between, moded, driven]
  held := by constructor <;> simp [Between, moded, driven, due, State.reset, Held.reset]
  snap := by constructor <;> simp [Between, moded, driven, Snapshot.reset]
  nPulse := by simp [Between, moded, driven, due, State.reset, Spd.reset]
  nMotorUsed := by simp [Between, moded, driven, due, State.reset, Spd.reset]
  nSel := by simp [Between, moded, driven, due, State.reset, Spd.reset]
  nEff := by simp [Between, moded, driven, due, State.reset, Spd.reset]
  record := by constructor <;> simp [Between, moded, driven, due, State.reset, SplitRecord.reset, SplitRecord.out]
  pages := fun p => by
    cases p <;> constructor <;>
      simp [Between, PerPort.get, moded, driven, due, State.reset, Port.reset, SplitRecord.reset, SplitRecord.out]
  previous := ⟨rfl, rfl, rfl⟩
  handedOver := fun _ => by constructor <;> simp [Between, moded, driven, due, State.reset, SplitOut.reset]

theorem witness_SplitStageSharesTheDemand (m : Mode) (q : SeqState) :
    (moded .split m q).Bounded ∧ (moded .split m q).rstN = true ∧ (moded .split m q).stage = .split
    ∧ ∃ t, exec .splitStage (moded .split m q) = .next t := ⟨witness_Bounded _ _ _, rfl, rfl, _, rfl⟩

/-- Each role's port, and a page at each end of the two ranges. -/
theorem witness_GrantViewsAndPages :
    (State.reset.ports.get .p0).role = .vehicle ∧ (State.reset.ports.get .p1).role = .engine ∧ (State.reset.ports.get .p2).role = .motor
    ∧ (State.reset.ports.get .p3).role = .battery ∧ (words 0 0 0 0).w0.toNat = 0 ∧ (words 3 0 0 0).w0.toNat ≤ 3
    ∧ 3 < (words 4 0 0 0).w0.toNat := by decide

/-- RST_N high and low, the two clauses of ReleaseTakesTheStraps. -/
theorem witness_ReleaseTakesTheStraps : State.reset.rstN = true ∧ low.rstN = false := ⟨rfl, rfl⟩

theorem witness_InterpolationRounds : (CalSet.defaults.line.toList.map Row.x).Pairwise (· < ·)
    ∧ CalSet.defaults.line.toList[10]? = some ⟨4000, 170⟩ ∧ CalSet.defaults.line.toList[10 + 1]? = some ⟨4500, 160⟩ := by
  decide

theorem witness_PublicationReplacesTheRecord : (due .publish).rstN = true ∧ (due .publish).stage = .publish := ⟨rfl, rfl⟩

/-- The slot free, held by port 2 with nothing and with a commit pending, and so held by another for port 0. -/
theorem witness_ClaimReleaseCommit (pending : Bool) :
    State.reset.cal.claim = none
    ∧ (let s := State.reset.withClaim (some ⟨.p2, .defaults, pending⟩)
       s.Live .p2 ∧ s.Enabled .p2 ∧ s.Live .p0 ∧ s.Enabled .p0 ∧ s.cal.claim = some ⟨.p2, .defaults, pending⟩) :=
  ⟨rfl, ⟨rfl, rfl⟩, rfl, ⟨rfl, rfl⟩, rfl, rfl⟩

/-- The last row of each table and the first beyond it. -/
theorem witness_LoadRowReplacesOneStagedRow :
    rowAddr 0 11 = some (.line 11) ∧ rowAddr 0 12 = none ∧ rowAddr 1 5 = some (.offset 5) ∧ rowAddr 1 6 = none
    ∧ rowAddr 2 26 = some (.thr 26) ∧ rowAddr 2 27 = none ∧ rowAddr 3 0 = none ∧ (words 2 26 1 0).w2.getLsbD 0 = true := by
  decide

/-- A pending commit that passes and one that fails; a rejector turned off; a crank timeout kept, lowered and raised. -/
theorem witness_PeriodBoundarySettlesTheCommit :
    State.reset.rstN = true ∧ State.reset.stage = .idle ∧ (CalSet.defaults.load (.thr 24) 2 0).validate = .none
    ∧ (CalSet.defaults.load (.thr 24) 4 0).validate ≠ .none ∧ CalSet.defaults.pulseOptions = 0
    ∧ (CalSet.defaults.load (.thr 24) 2 0).pulseOptions = 2
    ∧ (CalSet.defaults.load (.thr 24) 2 0).crankTimeout = CalSet.defaults.crankTimeout
    ∧ ((CalSet.defaults.load (.thr 15) 60 0).crankTimeout < CalSet.defaults.crankTimeout
      ∧ (CalSet.defaults.load (.thr 15) 60 0).validate = .none)
    ∧ (CalSet.defaults.crankTimeout < (CalSet.defaults.load (.thr 15) 151 0).crankTimeout
      ∧ (CalSet.defaults.load (.thr 15) 151 0).validate = .none) := by decide

/-- Each reason of R153 is the answer for one set. -/
theorem witness_ValidationNamesTheFirstFailure :
    let d := CalSet.defaults
    (d.load (.line 1) 800 80).validate = .orderT0 ∧ (d.load (.line 0) (-1) 60).validate = .rangeT0
    ∧ (d.load (.offset 5) 450 0).validate = .orderT1 ∧ (d.load (.offset 0) 0 201).validate = .rangeT1
    ∧ (d.load (.thr 26) 101 0).validate = .rangeT2 ∧ (d.load (.thr 9) 900 0).validate = .thresholds := by decide

/-- A boundary that applies a commit changes the active set. -/
theorem witness_ActiveSetChangesOnlyAtABoundary :
    let s := State.reset.withClaim (some ⟨.p2, CalSet.defaults.load (.thr 0) 200 0, true⟩)
    (∃ t, exec (.periodBoundary false) s = .next t) ∧ (after (.periodBoundary false) s).cal.active ≠ s.cal.active :=
  ⟨⟨_, rfl⟩, by decide⟩

/-- A driven state meets the hypotheses of the invariant statements, and takes a step. -/
theorem witness_invariants :
    let s : State := { moded .mode .electric .off with pending := [.modeDecision] }
    s.Paired ∧ s.SeqNotes ∧ s.SourcesOk ∧ s.PortsOk ∧ ∃ t, step s = .next t := by
  refine ⟨⟨rfl, ⟨rfl, rfl⟩, nofun, fun _ => rfl, ⟨rfl, rfl⟩⟩, ?_, fun r => ?_, ?_, _, rfl⟩
  · constructor <;> decide
  · cases r <;> constructor <;> decide
  · exact ⟨(fun p => by cases p <;> rfl), (fun p h => by cases p <;> cases h), nofun, nofun, (fun p => by cases p <;> decide)⟩

theorem witness_StepKeepsTheRanges : (moded .split .hybrid .coupled).Bounded ∧ (moded .split .hybrid .coupled).CountersInRange
    ∧ ∃ t, step (moded .split .hybrid .coupled) = .next t := by
  refine ⟨witness_Bounded _ _ _, ⟨fun r => ?_, ?_, ?_, ?_, ?_, ?_, ?_, ?_, ?_, ?_, ?_, ?_, ?_⟩, _, rfl⟩
  · cases r <;> (unfold Between; decide)
  all_goals decide

end Sys2Proof.Tests
end

section
/-! SUPPORT. When a report is refused and what its answer then says (R3). -/

namespace Sys2Proof.Machine

/-- After an answered frame the port holds that answer's result code. -/
theorem Answered.held_result {k : FrameKind} {p : PortId} {tag : Byte} {w : Words} {result : ResultCode} {words : Words}
    {s t : State} (h : Answered k p tag w result words s t) : (t.ports.get p).held.result = result := by
  obtain ⟨hport, -⟩ := h
  rw [hport]

/-- SRC refuses a report to an UNDECLARED source (R3). -/
theorem serveReport_of_undeclared {r : Role} {s : State} (h : (s.src.get r).state = .undeclared) (w : Words) :
    serveReport r w s = .refuse .undeclared s := if_pos h

/-- SRC takes a report to a source in any other state (R3, R6). -/
theorem serveReport_result_of_ne_undeclared {r : Role} {s : State} (h : (s.src.get r).state ≠ .undeclared) (w : Words) :
    (serveReport r w s).result = .ok ∨ (serveReport r w s).result = .okClamped := by
  unfold serveReport
  rw [if_neg h]
  dsimp only
  split
  · exact .inr rfl
  · exact .inl rfl

/-- A refused report leaves all but the ports as it was: no record, no held value and no notice changes (R3). -/
theorem State.goodFrame_report_frame_of_undeclared {r : Role} {p : PortId} {s : State} (ha : s.Admits (reportKind r) p)
    (h : (s.src.get r).state = .undeclared) (tag : Byte) (w : Words) :
    s.goodFrame (reportKind r) p tag w = { s with ports := (s.goodFrame (reportKind r) p tag w).ports } := by
  rw [State.goodFrame_report r ha, serveReport_of_undeclared h]
  rfl

/-- Settles O16: the command is the completion of an admitted frame, which answers with what SRC's service of the report gives on
the state before it. -/
theorem reportIsRefusedOnlyWhenUndeclared : Obligations.ReportIsRefusedOnlyWhenUndeclared := by
  intro r p tag w s ha
  have hans := State.goodFrame_report_answered r ha tag w
  refine ⟨_, exec_command _ p tag w s, fun hu => ⟨?_, State.goodFrame_report_frame_of_undeclared ha hu tag w⟩, fun hd => ?_⟩
  · rwa [serveReport_of_undeclared hu] at hans
  · rw [hans.held_result]
    exact serveReport_result_of_ne_undeclared hd w

end Sys2Proof.Machine
end

section
/-! SUPPORT. The rounding of a quotient and the walk along a table's rows: how the two tables are read (R113). -/

namespace Sys2Proof.Machine

/-- For a dividend that is not negative the quotient is rounded as Mathlib's `round` does, a half up (R113). -/
theorem round_div_eq_roundNearest {a b : Int} (ha : 0 ≤ a) (hb : 0 < b) : round ((a : ℚ) / b) = roundNearest a b := by
  have hb' : (0 : ℚ) < b := by exact_mod_cast hb
  have hlo : roundNearest a b * (2 * b) ≤ 2 * a + b := by
    rw [roundNearest, if_pos ha]; exact Int.ediv_mul_le _ (by omega)
  have hhi : 2 * a + b < (roundNearest a b + 1) * (2 * b) := by
    rw [roundNearest, if_pos ha]; exact Int.lt_ediv_add_one_mul_self _ (by omega)
  qify at hlo hhi
  rw [round_eq_iff, Set.mem_Ico, le_div_iff₀ hb', div_lt_iff₀ hb']
  constructor <;> linarith

/-- The rounding is symmetric about 0, so that a half goes away from zero on both sides (R113). -/
theorem roundNearest_neg {b : Int} (hb : 0 < b) (a : Int) : roundNearest (-a) b = -roundNearest a b := by
  have zero : b / (2 * b) = 0 := Int.ediv_eq_zero_of_lt hb.le (by omega)
  obtain h | rfl | h := lt_trichotomy a 0
  · rw [roundNearest, roundNearest, if_pos (by omega), if_neg (by omega), neg_neg]
  · simp [roundNearest, zero]
  · rw [roundNearest, roundNearest, if_neg (by omega), if_pos h.le, neg_neg]

theorem roundNearest_zero {b : Int} (hb : 0 < b) : roundNearest 0 b = 0 := by
  have h := roundNearest_neg hb 0
  rw [neg_zero] at h
  omega

/-- The whole number is nearest to the quotient, and of two as near it is the one farther from zero (R113). -/
def RoundsAway (q : ℚ) (n : Int) : Prop := |(n : ℚ) - q| ≤ 1 / 2 ∧ (|(n : ℚ) - q| = 1 / 2 → |q| < |(n : ℚ)|)

theorem RoundsAway.neg {q : ℚ} {n : Int} (h : RoundsAway q n) : RoundsAway (-q) (-n) := by
  have hdist : |((-n : Int) : ℚ) - -q| = |(n : ℚ) - q| := by rw [← abs_neg]; push_cast; ring_nf
  unfold RoundsAway
  rw [hdist, Int.cast_neg, abs_neg, abs_neg]
  exact h

/-- A quotient that is not negative: `round` takes a half up, which is away from zero. -/
theorem roundsAway_round {q : ℚ} (hq : 0 ≤ q) : RoundsAway q (round q) := by
  refine ⟨abs_sub_comm q _ ▸ abs_sub_round q, fun htie => ?_⟩
  obtain ⟨-, hlt⟩ := round_eq_iff.mp (rfl : round q = round q)
  obtain hup | hdown := eq_or_eq_neg_of_abs_eq htie
  · rw [abs_of_nonneg hq]
    exact lt_of_lt_of_le (by linarith) (le_abs_self _)
  · linarith

theorem roundsAway_roundNearest {b : Int} (hb : 0 < b) (a : Int) : RoundsAway ((a : ℚ) / b) (roundNearest a b) := by
  have nonneg {a : Int} (ha : 0 ≤ a) : RoundsAway ((a : ℚ) / b) (roundNearest a b) := by
    rw [← round_div_eq_roundNearest ha hb]
    exact roundsAway_round (div_nonneg (by exact_mod_cast ha) (by exact_mod_cast hb.le))
  obtain ha | ha := le_total 0 a
  · exact nonneg ha
  · have h := (nonneg (neg_nonneg.mpr ha)).neg
    rwa [roundNearest_neg hb, neg_neg, Int.cast_neg, neg_div, neg_neg] at h

/-- A quotient between 0 and a whole number stays there when it is rounded. -/
theorem roundNearest_between {a b m : Int} (hb : 0 < b) (ha : 0 ≤ a) (hm : a ≤ m * b) :
    0 ≤ roundNearest a b ∧ roundNearest a b ≤ m := by
  rw [roundNearest, if_pos ha]
  refine ⟨Int.ediv_nonneg (by omega) (by omega), Int.lt_add_one_iff.mp (Int.ediv_lt_of_lt_mul (by omega) ?_)⟩
  calc 2 * a + b < 2 * (m * b) + 2 * b := by omega
    _ = (m + 1) * (2 * b) := by ring

/-- A point of a segment, u of its b steps along, lies between the values y and z at its ends (R113). -/
theorem segment_between {b u : Int} (hb : 0 < b) (hu : 0 ≤ u) (hub : u ≤ b) (y z : Int) :
    min y z ≤ y + roundNearest ((z - y) * u) b ∧ y + roundNearest ((z - y) * u) b ≤ max y z := by
  have rise {d : Int} (hd : 0 ≤ d) : 0 ≤ roundNearest (d * u) b ∧ roundNearest (d * u) b ≤ d :=
    roundNearest_between hb (Int.mul_nonneg hd hu) (Int.mul_le_mul_of_nonneg_left hub hd)
  obtain h | h := le_total y z
  · have := rise (sub_nonneg.mpr h)
    omega
  · have hneg : roundNearest ((z - y) * u) b = -roundNearest ((y - z) * u) b := by
      rw [← roundNearest_neg hb, ← neg_mul, neg_sub]
    have := rise (sub_nonneg.mpr h)
    omega

/-- The breakpoints of the rows increase strictly (R113, R142). -/
def Increasing (rows : List Row) : Prop := (rows.map Row.x).Pairwise (· < ·)

theorem Increasing.tail {r : Row} {t : List Row} (h : Increasing (r :: t)) : Increasing t := (List.pairwise_cons.mp h).2

/-- The first row of increasing rows has the least breakpoint. -/
theorem Increasing.head_le {r a : Row} {t : List Row} (h : Increasing (r :: t)) (ha : a ∈ r :: t) : r.x ≤ a.x := by
  obtain rfl | ha := List.mem_cons.mp ha
  · exact le_rfl
  · exact ((List.pairwise_cons.mp h).1 a.x (List.mem_map_of_mem ha)).le

/-- Neighbouring rows have different breakpoints. -/
theorem Increasing.head_lt {r q : Row} {t : List Row} (h : Increasing (r :: q :: t)) : r.x < q.x :=
  (List.pairwise_cons.mp h).1 q.x List.mem_cons_self

/-- From the second row's breakpoint on, the walk goes on at the second row. -/
theorem interpolateFrom_cons_of_le {q : Row} {x : Int} (h : q.x ≤ x) (r : Row) (t : List Row) :
    interpolateFrom r (q :: t) x = interpolateFrom q t x := if_neg h.not_gt

/-- Before the second row's breakpoint, the first segment gives the value. -/
theorem interpolateFrom_cons_of_lt {q : Row} {x : Int} (h : x < q.x) (r : Row) (t : List Row) :
    interpolateFrom r (q :: t) x = r.y + roundNearest ((q.y - r.y) * (x - r.x)) (q.x - r.x) := if_pos h

/-- The walk from a row at its own breakpoint gives its value. -/
theorem interpolateFrom_self {r : Row} {t : List Row} (h : Increasing (r :: t)) : interpolateFrom r t r.x = r.y := by
  cases t with
  | nil => rfl
  | cons q t =>
    rw [interpolateFrom_cons_of_lt h.head_lt, sub_self, mul_zero, roundNearest_zero (sub_pos.mpr h.head_lt), add_zero]

/-- At or above the last row the walk gives the last value (R113). -/
theorem interpolateFrom_of_getLast_le {l : Row} {x : Int} (hx : l.x ≤ x) {r : Row} {t : List Row} (h : Increasing (r :: t))
    (hl : (r :: t).getLast? = some l) : interpolateFrom r t x = l.y := by
  induction t generalizing r with
  | nil =>
    obtain rfl : r = l := by simpa using hl
    rfl
  | cons q t ih =>
    rw [List.getLast?_cons_cons] at hl
    have hq : q.x ≤ l.x := h.tail.head_le (List.mem_of_getLast? hl)
    rw [interpolateFrom_cons_of_le (hq.trans hx)]
    exact ih h.tail hl

/-- Between two neighbouring rows the walk gives the value on their segment (R113). -/
theorem interpolateFrom_of_segment {a b : Row} {x : Int} (hax : a.x ≤ x) (hxb : x < b.x) {r : Row} {t : List Row} {i : Nat}
    (h : Increasing (r :: t)) (ha : (r :: t)[i]? = some a) (hb : (r :: t)[i + 1]? = some b) :
    interpolateFrom r t x = a.y + roundNearest ((b.y - a.y) * (x - a.x)) (b.x - a.x) := by
  induction t generalizing r i with
  | nil => simp at hb
  | cons q t ih =>
    cases i with
    | zero =>
      obtain rfl : r = a := by simpa using ha
      obtain rfl : q = b := by simpa using hb
      exact interpolateFrom_cons_of_lt hxb _ _
    | succ i =>
      rw [List.getElem?_cons_succ] at ha hb
      have hq : q.x ≤ a.x := h.tail.head_le (List.mem_of_getElem? ha)
      rw [interpolateFrom_cons_of_le (hq.trans hax)]
      exact ih h.tail ha hb

/-- At or below the first row a table gives the first value (R113). -/
theorem interpolate_of_le_head {r : Row} {x : Int} (h : x ≤ r.x) (t : List Row) : interpolate (r :: t) x = r.y := if_pos h

/-- From the first row on, a table is read by the walk along its rows. -/
theorem interpolate_of_head_le {r : Row} {t : List Row} {x : Int} (h : Increasing (r :: t)) (hx : r.x ≤ x) :
    interpolate (r :: t) x = interpolateFrom r t x := by
  obtain rfl | hlt := hx.eq_or_lt
  · rw [interpolate_of_le_head le_rfl, interpolateFrom_self h]
  · exact if_neg hlt.not_ge

theorem interpolate_of_getLast_le {rows : List Row} {l : Row} {x : Int} (h : Increasing rows) (hl : rows.getLast? = some l)
    (hx : l.x ≤ x) : interpolate rows x = l.y := by
  cases rows with
  | nil => simp at hl
  | cons r t =>
    rw [interpolate_of_head_le h ((h.head_le (List.mem_of_getLast? hl)).trans hx)]
    exact interpolateFrom_of_getLast_le hx h hl

theorem interpolate_of_segment {rows : List Row} {a b : Row} {x : Int} {i : Nat} (h : Increasing rows) (ha : rows[i]? = some a)
    (hb : rows[i + 1]? = some b) (hax : a.x ≤ x) (hxb : x < b.x) :
    interpolate rows x = a.y + roundNearest ((b.y - a.y) * (x - a.x)) (b.x - a.x) := by
  cases rows with
  | nil => simp at ha
  | cons r t =>
    rw [interpolate_of_head_le h ((h.head_le (List.mem_of_getElem? ha)).trans hax)]
    exact interpolateFrom_of_segment hax hxb h ha hb

/-- Settles O43: each place of x in the table has its value, and on a segment the rounded quotient is added to the lower row's. -/
theorem interpolationRounds : Obligations.InterpolationRounds := by
  intro rows x h
  refine ⟨fun r hr hx => ?_, fun l hl hx => interpolate_of_getLast_le h hl hx, fun i a b ha hb hax hxb => ?_⟩
  · obtain ⟨t, rfl⟩ := List.head?_eq_some_iff.mp hr
    exact interpolate_of_le_head hx t
  · have hwidth : 0 < b.x - a.x := by omega
    obtain ⟨hnear, htie⟩ := roundsAway_roundNearest hwidth ((b.y - a.y) * (x - a.x))
    have hbetween := segment_between hwidth (by omega : 0 ≤ x - a.x) (by omega) a.y b.y
    rw [interpolate_of_segment h ha hb hax hxb, add_sub_cancel_left]
    exact ⟨hnear, htie, hbetween⟩

end Sys2Proof.Machine
end

section
/-! SUPPORT. The packed words of a record bit by bit (R190), what a page holds (R137, R139), and a frame of READ_GRANT or READ_SPLIT
as it completes. -/

namespace Sys2Proof.Machine

/-! ### The packed words (R190) -/

theorem bitNat_lt (b : Bool) : bitNat b < 2 := by cases b <;> decide

theorem Mode.code_lt (m : Mode) : m.code < 8 := by cases m <;> decide

theorem SeqState.code_lt (q : SeqState) : q.code < 8 := by cases q <;> decide

theorem Avail.code_lt (a : Avail) : a.code < 4 := by cases a <;> decide

theorem EngineCmd.code_lt (c : EngineCmd) : c.code < 8 := by cases c <;> decide

theorem ClutchCmd.code_eq_bitNat (c : ClutchCmd) : c.code = bitNat (decide (c = .close)) := by cases c <;> rfl

theorem Origin.code_eq_bitNat (o : Origin) : o.code = bitNat (decide (o = .loaded)) := by cases o <;> rfl

/-- A bit of a word, from the word as a number. -/
theorem getLsbD_eq_of_div_mod {m : Word} {i : Nat} {b : Bool} (h : m.toNat / 2 ^ i % 2 = bitNat b) : m.getLsbD i = b := by
  rw [← BitVec.testBit_toNat, Nat.testBit_eq_decide_div_mod_eq, h]
  cases b <;> rfl

/-- The mode word carries its six items side by side, and nothing above them. -/
theorem SplitRecord.modeWord_packs (r : SplitRecord) : ModeWord r r.modeWord := by
  have hmode := r.mode.code_lt
  have hseq := r.seqState.code_lt
  have havail := r.engineAvail.code_lt
  have helectric := bitNat_lt r.electricAvail
  have hderating := bitNat_lt r.derating
  have horigin := bitNat_lt (decide (r.origin = .loaded))
  have hnum : r.modeWord.toNat = r.mode.code + 8 * r.seqState.code + 64 * bitNat r.electricAvail + 128 * r.engineAvail.code
      + 512 * bitNat r.derating + 1024 * bitNat (decide (r.origin = .loaded)) := by
    rw [modeWord, Origin.code_eq_bitNat, BitVec.toNat_ofNat, Nat.mod_eq_of_lt (by omega)]
  refine ⟨?_, ?_, getLsbD_eq_of_div_mod ?_, ?_, getLsbD_eq_of_div_mod ?_, getLsbD_eq_of_div_mod ?_, ?_⟩ <;> omega

/-- The command word carries its three items side by side. -/
theorem SplitRecord.commandWord_packs (r : SplitRecord) : CommandWord r r.commandWord := by
  have hengine := r.engineCmd.code_lt
  have hclutch := bitNat_lt (decide (r.clutchCmd = .close))
  have hmode := r.mode.code_lt
  have hnum : r.commandWord.toNat = r.engineCmd.code + 8 * bitNat (decide (r.clutchCmd = .close)) + 16 * r.mode.code := by
    rw [commandWord, ClutchCmd.code_eq_bitNat, BitVec.toNat_ofNat, Nat.mod_eq_of_lt (by omega)]
  refine ⟨?_, getLsbD_eq_of_div_mod ?_, ?_⟩ <;> omega

/-! ### The pages of a record (R137, R139) -/

/-- There is a page under each number from 0 to 3. -/
theorem SplitRecord.pageWords_of_le (r : SplitRecord) {page : Word} (h : page.toNat ≤ 3) : ∃ v, r.pageWords page = some v := by
  unfold SplitRecord.pageWords
  split_ifs with h0 h1 h2 h3
  · exact ⟨_, rfl⟩
  · exact ⟨_, rfl⟩
  · exact ⟨_, rfl⟩
  · exact ⟨_, rfl⟩
  · bv_omega

/-- There is no page above 3. -/
theorem SplitRecord.pageWords_of_gt (r : SplitRecord) {page : Word} (h : 3 < page.toNat) : r.pageWords page = none := by
  unfold SplitRecord.pageWords
  rw [if_neg (by bv_omega), if_neg (by bv_omega), if_neg (by bv_omega), if_neg (by bv_omega)]

/-- What a page holds: the epoch first, then three items of the record. -/
theorem SplitRecord.pageWords_contents {r : SplitRecord} {page : Word} {v : Words} (h : r.pageWords page = some v) :
    v.w0 = r.epoch
      ∧ (page.toNat = 0 → v.w1 = r.modeWord ∧ v.w2 = word r.td ∧ v.w3 = word r.pBatt)
      ∧ (page.toNat = 1 → v.w1 = word r.te ∧ v.w2 = word r.tm ∧ v.w3 = word r.tb)
      ∧ (page.toNat = 2 → v.w1 = word r.tu ∧ v.w2 = word r.tmHi ∧ v.w3 = word r.tmLo)
      ∧ (page.toNat = 3 → v.w1 = word r.teHi ∧ v.w2 = word r.teLo ∧ v.w3 = word r.nSel) := by
  unfold SplitRecord.pageWords at h
  split_ifs at h
  all_goals
    subst page
    obtain rfl := Option.some.inj h
    simp

/-! ### The page snapshot of a port (R137, R138) -/

/-- The record that answers a page on a port: the one REC holds for page 0, the port's page snapshot for the others. -/
def State.pageRecord (p : PortId) (page : Word) (s : State) : SplitRecord := if page = 0 then s.record else (s.ports.get p).page

theorem State.refreshPage_ports_get (p : PortId) (page : Word) (s : State) :
    (s.refreshPage p page).ports.get p = { s.ports.get p with page := s.pageRecord p page } := by
  unfold State.refreshPage State.pageRecord
  split <;> simp

theorem State.refreshPage_ports_ne {p q : PortId} (hq : q ≠ p) (page : Word) (s : State) :
    (s.refreshPage p page).ports.get q = s.ports.get q := by
  unfold State.refreshPage
  split <;> simp [hq]

theorem State.refreshPage_eq (p : PortId) (page : Word) (s : State) :
    s.refreshPage p page = s.withPorts (s.refreshPage p page).ports := by
  unfold State.refreshPage
  split <;> rfl

/-- The end of a frame leaves the record that answers a page. -/
theorem State.pageRecord_frameEnds (p : PortId) (page : Word) (l : List Bool) (s : State) :
    (s.frameEnds p l).pageRecord p page = s.pageRecord p page := by
  simp [State.pageRecord]

/-- REC serves a page that the record has, and the snapshot is that record then. -/
theorem serveReadSplit_of_some {p : PortId} {w : Words} {s : State} {v : Words}
    (h : (s.pageRecord p w.w0).pageWords w.w0 = some v) : serveReadSplit p w s = ⟨s.refreshPage p w.w0, .ok, v⟩ := by
  simp [serveReadSplit, State.refreshPage_ports_get, h]

/-- REC refuses a page above 3. -/
theorem serveReadSplit_of_gt (p : PortId) {w : Words} (s : State) (h : 3 < w.w0.toNat) :
    serveReadSplit p w s = .refuse .badArgument s := by
  simp [serveReadSplit, SplitRecord.pageWords_of_gt _ h]

/-! ### The frames of READ_GRANT and READ_SPLIT -/

/-- After a completed frame the port holds its answer. -/
theorem FrameDone.held {p : PortId} {bits : List Bool} {answer : Response} {page : SplitRecord} {s t : State}
    (h : FrameDone p bits answer page s t) : (t.ports.get p).held = answer := by
  obtain ⟨hport, -⟩ := h
  rw [hport]

/-- READ_GRANT and READ_SPLIT are admitted on every live and enabled port, whatever its role (R179). -/
theorem State.admits_of_unbound {k : FrameKind} {p : PortId} {s : State} (hl : s.Live p) (he : s.Enabled p)
    (hk : boundRole k = none) : s.Admits k p :=
  ⟨hl, he, fun r hr => by rw [hk] at hr; cases hr⟩

/-- READ_GRANT is answered with the view of the port's role. -/
theorem State.goodFrame_readGrant_answered {p : PortId} {s : State} (h : s.Admits .readGrant p) (tag : Byte) (w : Words) :
    Answered .readGrant p tag w .ok (s.record.view (s.ports.get p).role) s (s.goodFrame .readGrant p tag w) := by
  have hrole := ((State.frameEnds_alike p (requestBits .readGrant tag w) s) p).1
  have hans := State.goodFrame_answered h tag w rfl
  simpa [serve, serveReadGrant, hrole] using hans

theorem State.goodFrame_readGrant_frame {p : PortId} {s : State} (h : s.Admits .readGrant p) (tag : Byte) (w : Words) :
    s.goodFrame .readGrant p tag w = { s with ports := (s.goodFrame .readGrant p tag w).ports } := by
  rw [State.goodFrame_admitted h]; rfl

/-- READ_SPLIT of a page that the record has is answered with it, and the port's page snapshot is that record. -/
theorem State.goodFrame_readSplit_done {p : PortId} {s : State} (h : s.Admits .readSplit p) (tag : Byte) {w v : Words}
    (hv : (s.pageRecord p w.w0).pageWords w.w0 = some v) :
    FrameDone p (requestBits .readSplit tag w) ⟨.ok, tag, v⟩ (s.pageRecord p w.w0) s (s.goodFrame .readSplit p tag w) := by
  have hserve : serve .readSplit p w (s.frameEnds p (requestBits .readSplit tag w)) = _ :=
    serveReadSplit_of_some (by rwa [State.pageRecord_frameEnds])
  rw [State.goodFrame_admitted h, hserve]
  refine ⟨?_, fun q hq => ?_⟩
  · simp [State.refreshPage_ports_get, State.pageRecord_frameEnds]
  · simp [State.refreshPage_ports_ne hq, hq]

/-- READ_SPLIT of a page above 3 is refused, and the port's page snapshot stays. -/
theorem State.goodFrame_readSplit_refused {p : PortId} {s : State} (h : s.Admits .readSplit p) (tag : Byte) {w : Words}
    (hw : 3 < w.w0.toNat) : Answered .readSplit p tag w .badArgument zeroWords s (s.goodFrame .readSplit p tag w) := by
  have hserve : serve .readSplit p w (s.frameEnds p (requestBits .readSplit tag w)) = _ := serveReadSplit_of_gt p _ hw
  have hans := State.goodFrame_answered h tag w (by rw [hserve]; rfl)
  rwa [hserve] at hans

theorem State.goodFrame_readSplit_frame {p : PortId} {s : State} (h : s.Admits .readSplit p) (tag : Byte) (w : Words) :
    s.goodFrame .readSplit p tag w = { s with ports := (s.goodFrame .readSplit p tag w).ports } := by
  rw [State.goodFrame_admitted h]
  rcases serveReadSplit_state p w (s.frameEnds p (requestBits .readSplit tag w)) with hs | hs
  · simp only [serve, hs]; rfl
  · simp only [serve, hs]; rw [State.refreshPage_eq]; rfl

/-- Settles O46: both commands complete an admitted frame; READ_GRANT by the port's role, READ_SPLIT by whether the page exists. -/
theorem grantViewsAndPages : Obligations.GrantViewsAndPages := by
  intro p tag w s hlive henabled
  have hgrant : s.Admits .readGrant p := State.admits_of_unbound hlive henabled rfl
  have hsplit : s.Admits .readSplit p := State.admits_of_unbound hlive henabled rfl
  refine ⟨⟨_, exec_command .readGrant p tag w s, State.goodFrame_readGrant_frame hgrant tag w, ?_⟩,
    _, exec_command .readSplit p tag w s, State.goodFrame_readSplit_frame hsplit tag w, fun hle => ?_,
    State.goodFrame_readSplit_refused hsplit tag⟩
  · have hans := State.goodFrame_readGrant_answered hgrant tag w
    rw [FrameDone.held hans]
    refine ⟨hans, ?_, fun hr => ?_, fun hr => ?_, fun hr => ?_, fun hr => ?_⟩
    · cases (s.ports.get p).role <;> rfl
    · rw [hr]; exact ⟨s.record.modeWord_packs, rfl, rfl⟩
    · rw [hr]; exact ⟨s.record.commandWord_packs, rfl, rfl⟩
    · rw [hr]; exact ⟨rfl, rfl, rfl⟩
    · rw [hr]; exact ⟨s.record.modeWord_packs, rfl, rfl⟩
  · obtain ⟨v, hv⟩ := (s.pageRecord p w.w0).pageWords_of_le hle
    have hdone := State.goodFrame_readSplit_done hsplit tag hv
    obtain ⟨hepoch, hpage0, hpages⟩ := SplitRecord.pageWords_contents hv
    rw [hdone.held]
    refine ⟨hdone, hepoch, fun h0 => ?_, hpages⟩
    obtain ⟨hmode, hwords⟩ := hpage0 h0
    exact ⟨hmode ▸ SplitRecord.modeWord_packs _, hwords⟩

end Sys2Proof.Machine
end

section
/-! SUPPORT. The calibration requests: what refuses a request that needs the claim, the place that a table id and a row index name,
and a frame of CLAIM, RELEASE, COMMIT, LOAD_ROW or READ_ROW as it completes (R145 to R152). -/

namespace Sys2Proof.Machine

/-! ### The claim as a request finds it (R145, R146, R149, R152) -/

/-- What refuses a request that needs its port to hold the claim with nothing pending: RELEASE, LOAD_ROW and COMMIT name the same
refusals in the same order (R146, R149, R152). -/
def Cal.refusal (p : PortId) (k : Cal) : Option ResultCode :=
  match k.claim with
  | none => some .noClaim
  | some c => if c.holder ≠ p then some .notHolder else if c.pending then some .busy else none

section
variable {p : PortId} {k : Cal} {c : Claim} {s : State} {r : ResultCode} {w : Words} {set : CalSet} {a : RowAddr}

theorem Cal.refusal_of_free (h : k.claim = none) : k.refusal p = some .noClaim := by simp [refusal, h]

theorem Cal.refusal_of_ne (h : k.claim = some c) (hc : c.holder ≠ p) : k.refusal p = some .notHolder := by simp [refusal, h, hc]

theorem Cal.refusal_of_pending (h : k.claim = some c) (hc : c.holder = p) (hp : c.pending = true) :
    k.refusal p = some .busy := by simp [refusal, h, hc, hp]

/-- Each refusal tells what the claim is. -/
theorem Cal.refusal_cases (h : k.refusal p = some r) :
    (k.claim = none ∧ r = .noClaim)
    ∨ ∃ c, k.claim = some c ∧ (c.holder ≠ p ∧ r = .notHolder ∨ c.holder = p ∧ c.pending = true ∧ r = .busy) := by
  unfold refusal at h
  split at h
  next hk => exact .inl ⟨hk, (Option.some.inj h).symm⟩
  next c hk =>
    refine .inr ⟨c, hk, ?_⟩
    split_ifs at h with hc hp
    · exact .inl ⟨hc, (Option.some.inj h).symm⟩
    · exact .inr ⟨not_not.mp hc, hp, (Option.some.inj h).symm⟩

/-! ### What CAL makes of each request -/

theorem serveClaim_of_free (h : s.cal.claim = none) :
    serveClaim p s = .status .ok (s.withClaim (some ⟨p, s.cal.active, false⟩)) := by simp [serveClaim, h]

/-- The holder's CLAIM is granted again and leaves the store (R145). -/
theorem serveClaim_of_holder (h : s.cal.claim = some c) (hc : c.holder = p) : serveClaim p s = .status .ok s := by
  simp [serveClaim, h, hc]

theorem serveClaim_of_ne (h : s.cal.claim = some c) (hc : c.holder ≠ p) : serveClaim p s = .status .held s := by
  simp [serveClaim, h, hc]

theorem serveRelease_of_refusal (h : s.cal.refusal p = some r) : serveRelease p s = .status r s := by
  obtain ⟨hk, rfl⟩ | ⟨c, hk, ⟨hc, rfl⟩ | ⟨hc, hp, rfl⟩⟩ := Cal.refusal_cases h <;> simp [serveRelease, *]

theorem serveRelease_of_holder (h : s.cal.claim = some c) (hc : c.holder = p) (hp : c.pending = false) :
    serveRelease p s = .status .ok (s.withClaim none) := by simp [serveRelease, h, hc, hp]

theorem serveCommit_of_refusal (h : s.cal.refusal p = some r) : serveCommit p s = .status r s := by
  obtain ⟨hk, rfl⟩ | ⟨c, hk, ⟨hc, rfl⟩ | ⟨hc, hp, rfl⟩⟩ := Cal.refusal_cases h <;> simp [serveCommit, *]

theorem serveCommit_of_holder (h : s.cal.claim = some c) (hc : c.holder = p) (hp : c.pending = false) :
    serveCommit p s = .status .accepted (s.withClaim (some { c with pending := true })) := by simp [serveCommit, h, hc, hp]

theorem serveLoadRow_of_refusal (h : s.cal.refusal p = some r) : serveLoadRow p w s = .refuse r s := by
  obtain ⟨hk, rfl⟩ | ⟨c, hk, ⟨hc, rfl⟩ | ⟨hc, hp, rfl⟩⟩ := Cal.refusal_cases h <;> simp [serveLoadRow, *]

theorem serveLoadRow_of_no_row (h : s.cal.claim = some c) (hc : c.holder = p) (hp : c.pending = false)
    (ha : rowAddr w.w0 w.w1 = none) : serveLoadRow p w s = .refuse .badArgument s := by simp [serveLoadRow, h, hc, hp, ha]

/-- LOAD_ROW of a row that exists replaces it in the staging set and answers with it as stored (R150). -/
theorem serveLoadRow_of_row (h : s.cal.claim = some c) (hc : c.holder = p) (hp : c.pending = false)
    (ha : rowAddr w.w0 w.w1 = some a) :
    serveLoadRow p w s =
      let staging := c.staging.load a (signed w.w2) (signed w.w3)
      ⟨s.withClaim (some { c with staging := staging }), .ok, rowWords w.w0 w.w1 (staging.rowValues a)⟩ := by
  simp [serveLoadRow, h, hc, hp, ha]

theorem serveReadRow_active (h : w.w2.getLsbD 0 = false) : serveReadRow p w s = readRowOf s.cal.active w s := by
  simp only [serveReadRow, h, Bool.false_eq_true, if_false]

theorem serveReadRow_of_free (h : w.w2.getLsbD 0 = true) (hk : s.cal.claim = none) :
    serveReadRow p w s = .refuse .noClaim s := by simp only [serveReadRow, h, hk, if_true]

theorem serveReadRow_of_ne (h : w.w2.getLsbD 0 = true) (hk : s.cal.claim = some c) (hc : c.holder ≠ p) :
    serveReadRow p w s = .refuse .notHolder s := by simp only [serveReadRow, h, hk, if_pos hc, if_true]

/-- The holder reads the staging set, pending or not (R151). -/
theorem serveReadRow_staging (h : w.w2.getLsbD 0 = true) (hk : s.cal.claim = some c) (hc : c.holder = p) :
    serveReadRow p w s = readRowOf c.staging w s := by simp only [serveReadRow, h, hk, if_neg (not_not.mpr hc), if_true]

theorem readRowOf_of_row (h : rowAddr w.w0 w.w1 = some a) :
    readRowOf set w s = ⟨s, .ok, rowWords w.w0 w.w1 (set.rowValues a)⟩ := by simp [readRowOf, h]

theorem readRowOf_of_no_row (h : rowAddr w.w0 w.w1 = none) : readRowOf set w s = .refuse .badArgument s := by
  simp [readRowOf, h]

end

/-! ### The rows of a set (R149, R150) -/

/-- The table id of a place. -/
def RowAddr.table : RowAddr → Nat
  | .line _ => 0
  | .offset _ => 1
  | .thr _ => 2

/-- The row index of a place. -/
def RowAddr.index : RowAddr → Nat
  | .line i => i
  | .offset i => i
  | .thr i => i

/-- The place that a table id and a row index name has them as its own. -/
theorem numbers_of_rowAddr {table index : Word} {a : RowAddr} (h : rowAddr table index = some a) :
    table.toNat = a.table ∧ index.toNat = a.index := by
  unfold rowAddr at h
  split_ifs at h with ht _ ht _ ht _ <;> cases h
  all_goals exact ⟨congrArg BitVec.toNat ht, rfl⟩

/-- A place is named by its table id and its row index. -/
theorem rowAddr_of_numbers {table index : Word} {a : RowAddr} (ht : table.toNat = a.table) (hi : index.toNat = a.index) :
    rowAddr table index = some a := by
  cases a with
  | line i =>
    have htable : table = 0 := BitVec.eq_of_toNat_eq ht
    have hindex : index.toNat = i := hi
    simp [rowAddr, htable, hindex]
  | offset i =>
    have htable : table = 1 := BitVec.eq_of_toNat_eq ht
    have hindex : index.toNat = i := hi
    simp [rowAddr, htable, hindex]
  | thr i =>
    have htable : table = 2 := BitVec.eq_of_toNat_eq ht
    have hindex : index.toNat = i := hi
    simp [rowAddr, htable, hindex]

/-- No place has a table id above 2 or a row index beyond its table's size (R149). -/
theorem rowAddr_eq_none_iff {table index : Word} :
    rowAddr table index = none ↔
      2 < table.toNat ∨ (table.toNat = 0 ∧ 12 ≤ index.toNat) ∨ (table.toNat = 1 ∧ 6 ≤ index.toNat)
        ∨ (table.toNat = 2 ∧ 27 ≤ index.toNat) := by
  unfold rowAddr
  split_ifs <;> simp <;> bv_omega

section
variable (c : CalSet) (a : RowAddr) (x y : Int)

/-- A load replaces the row of table 0 that it addresses and no other. -/
theorem CalSet.load_line (i : Fin 12) :
    (c.load a x y).line[i] = if a.table = 0 ∧ i.val = a.index then ⟨x, y⟩ else c.line[i] := by
  cases a <;> simp [load, RowAddr.table, RowAddr.index, Vector.getElem_set, eq_comm]

/-- A load replaces the row of table 1 that it addresses and no other. -/
theorem CalSet.load_offset (i : Fin 6) :
    (c.load a x y).offset[i] = if a.table = 1 ∧ i.val = a.index then ⟨x, y⟩ else c.offset[i] := by
  cases a <;> simp [load, RowAddr.table, RowAddr.index, Vector.getElem_set, eq_comm]

/-- A load replaces the row of table 2 that it addresses, by the first value alone, and no other (R150). -/
theorem CalSet.load_thr (i : Fin 27) :
    (c.load a x y).thr[i] = if a.table = 2 ∧ i.val = a.index then x else c.thr[i] := by
  cases a <;> simp [load, RowAddr.table, RowAddr.index, Vector.getElem_set, eq_comm]

/-- A loaded row reads back as it was loaded, table 2 without the second value (R150). -/
theorem CalSet.rowValues_load : (c.load a x y).rowValues a = (x, if a.table = 2 then 0 else y) := by
  cases a <;> simp [load, rowValues, RowAddr.table]

end

/-- A word that is read as a signed number and written back is the same word. -/
theorem word_signed (w : Word) : word (signed w) = w := BitVec.ofInt_toInt

/-- The echo of a load: the row's numbers and the words as sent, the fourth 0 for table 2 (R150). -/
theorem rowWords_load (table index first second : Word) (c : CalSet) (a : RowAddr) :
    rowWords table index ((c.load a (signed first) (signed second)).rowValues a)
      = ⟨table, index, first, if a.table = 2 then 0 else second⟩ := by
  rw [CalSet.rowValues_load, rowWords, word_signed]
  split
  · rfl
  · rw [word_signed]

/-! ### The calibration status (R159, R191) -/

theorem Rejection.code_lt (r : Rejection) : r.code < 8 := by cases r <;> decide

theorem roleCode_lt (r : Role) : r.code < 4 := by cases r <;> decide

/-- Whether a commit is pending, as the status shows it. -/
def Cal.commitPending (k : Cal) : Bool := k.claim.any Claim.pending

theorem Cal.commitPending_iff (k : Cal) : k.commitPending = true ↔ ∃ c, k.claim = some c ∧ c.pending = true := by
  simp [commitPending, Option.any_eq_true]

theorem State.calStatus_w0 (s : State) :
    s.calStatus.w0.toNat = bitNat (decide (s.cal.origin = .loaded)) + 2 * bitNat s.cal.commitPending := by
  have horigin := bitNat_lt (decide (s.cal.origin = .loaded))
  unfold State.calStatus Cal.commitPending
  rw [Origin.code_eq_bitNat]
  split
  next c hk =>
    have hpending := bitNat_lt c.pending
    rw [hk, wordN, BitVec.toNat_ofNat, Nat.mod_eq_of_lt (by omega)]
    rfl
  next hk =>
    rw [hk, wordN, BitVec.toNat_ofNat, Nat.mod_eq_of_lt (by omega)]
    rfl

/-- The four words of the calibration status carry its items. -/
theorem State.calStatus_packs (s : State) : CalStatus s s.calStatus := by
  have horigin := bitNat_lt (decide (s.cal.origin = .loaded))
  have hpending := bitNat_lt s.cal.commitPending
  have hreason := s.cal.lastRejection.code_lt
  have hw0 := s.calStatus_w0
  have hbit1 : s.calStatus.w0.getLsbD 1 = s.cal.commitPending := getLsbD_eq_of_div_mod (by omega)
  refine ⟨getLsbD_eq_of_div_mod (by omega), hbit1 ▸ s.cal.commitPending_iff, by omega, ?_, ?_, fun hk => ?_, fun c hk => ?_⟩
  · unfold State.calStatus; split <;> rfl
  · have hw2 : s.calStatus.w2 = wordN s.cal.lastRejection.code := by unfold State.calStatus; split <;> rfl
    rw [hw2, wordN, BitVec.toNat_ofNat, Nat.mod_eq_of_lt (by omega)]
  · simp [State.calStatus, hk]
  · have hrole := roleCode_lt (s.ports.get c.holder).role
    simp only [State.calStatus, hk, wordN, BitVec.toNat_ofNat]
    omega

theorem State.answer_calStatus (p : PortId) (r : Response) (s : State) : (s.answer p r).calStatus = s.calStatus := by
  have halike : Alike (s.answer p r).ports s.ports := fun q => by
    rw [State.answer_ports_get]
    split
    next hq => subst hq; exact ⟨rfl, rfl⟩
    next => exact ⟨rfl, rfl⟩
  exact State.calStatus_withPorts halike

/-! ### The frames of the calibration requests -/

/-- A completed frame whose service sets the claim slot and no more. -/
theorem State.goodFrame_withClaim {k : FrameKind} {p : PortId} {s : State} (h : s.Admits k p) {tag : Byte} {w words : Words}
    {claim : Option Claim} {result : ResultCode}
    (hs : serve k p w (s.frameEnds p (requestBits k tag w))
      = ⟨(s.frameEnds p (requestBits k tag w)).withClaim claim, result, words⟩) :
    Answered k p tag w result words s (s.goodFrame k p tag w)
      ∧ s.goodFrame k p tag w
        = { s with ports := (s.goodFrame k p tag w).ports, cal := { s.cal with claim := claim } } := by
  constructor
  · have hans := State.goodFrame_answered h tag w (by rw [hs]; rfl)
    rwa [hs] at hans
  · rw [State.goodFrame_admitted h, hs]
    rfl

/-- A completed frame whose service leaves the state. -/
theorem State.goodFrame_leaves {k : FrameKind} {p : PortId} {s : State} (h : s.Admits k p) {tag : Byte} {w words : Words}
    {result : ResultCode}
    (hs : serve k p w (s.frameEnds p (requestBits k tag w)) = ⟨s.frameEnds p (requestBits k tag w), result, words⟩) :
    Answered k p tag w result words s (s.goodFrame k p tag w)
      ∧ s.goodFrame k p tag w = { s with ports := (s.goodFrame k p tag w).ports } :=
  State.goodFrame_withClaim (claim := s.cal.claim) h hs

/-- What a calibration request answered with the calibration status leaves: the slot as given, all else as it was (R147). -/
def StatusAnswered (p : PortId) (tag : Byte) (w : Words) (s : State) (k : FrameKind) (result : ResultCode)
    (claim : Option Claim) : Prop :=
  ∃ t, exec (k.command p tag w) s = .next t
    ∧ t = { s with ports := t.ports, cal := { s.cal with claim := claim } }
    ∧ Answered k p tag w result (t.ports.get p).held.words s t ∧ CalStatus t (t.ports.get p).held.words

theorem statusAnswered_of_serve {k : FrameKind} {p : PortId} {s : State} (h : s.Admits k p) {tag : Byte} {w : Words}
    {claim : Option Claim} {result : ResultCode}
    (hs : serve k p w (s.frameEnds p (requestBits k tag w))
      = .status result ((s.frameEnds p (requestBits k tag w)).withClaim claim)) :
    StatusAnswered p tag w s k result claim := by
  obtain ⟨hans, hframe⟩ := State.goodFrame_withClaim h hs
  refine ⟨_, exec_command k p tag w s, hframe, ?_⟩
  rw [FrameDone.held hans]
  refine ⟨hans, ?_⟩
  rw [State.goodFrame_admitted h, hs, ← State.answer_calStatus]
  exact State.calStatus_packs _

/-- Settles O47: each request is served by the slot it finds, and the answer is the calibration status of what it leaves. -/
theorem claimReleaseCommit : Obligations.ClaimReleaseCommit := by
  intro p tag w s hlive henabled
  have hclaim : s.Admits .claim p := State.admits_of_unbound hlive henabled rfl
  have hrelease : s.Admits .release p := State.admits_of_unbound hlive henabled rfl
  have hcommit : s.Admits .commit p := State.admits_of_unbound hlive henabled rfl
  have refused {r : ResultCode} (h : s.cal.refusal p = some r) :
      StatusAnswered p tag w s .release r s.cal.claim ∧ StatusAnswered p tag w s .commit r s.cal.claim :=
    ⟨statusAnswered_of_serve hrelease (serveRelease_of_refusal h), statusAnswered_of_serve hcommit (serveCommit_of_refusal h)⟩
  refine ⟨fun h => ⟨statusAnswered_of_serve hclaim (serveClaim_of_free h), ?_⟩, fun c h => ⟨fun hc => ⟨?_, ?_⟩,
    fun hc hp => ⟨?_, ?_, ?_⟩, fun hc hp => ⟨?_, ?_⟩⟩⟩
  · exact h ▸ refused (Cal.refusal_of_free h)
  · exact h ▸ statusAnswered_of_serve hclaim (serveClaim_of_ne h hc)
  · exact h ▸ refused (Cal.refusal_of_ne h hc)
  · exact h ▸ statusAnswered_of_serve hclaim (serveClaim_of_holder h hc)
  · exact statusAnswered_of_serve hrelease (serveRelease_of_holder h hc hp)
  · exact statusAnswered_of_serve hcommit (serveCommit_of_holder h hc hp)
  · exact h ▸ statusAnswered_of_serve hclaim (serveClaim_of_holder h hc)
  · exact h ▸ refused (Cal.refusal_of_pending h hc hp)

/-- Settles O48: the service is a refusal by the claim, a refusal by the row's numbers, or the load of the row they name. -/
theorem loadRowReplacesOneStagedRow : Obligations.LoadRowReplacesOneStagedRow := by
  intro p tag w s hlive henabled
  have hadmits : s.Admits .loadRow p := State.admits_of_unbound hlive henabled rfl
  have refused {r : ResultCode} (h : s.cal.refusal p = some r) :=
    State.goodFrame_leaves hadmits (tag := tag) (w := w) (serveLoadRow_of_refusal h)
  refine ⟨_, exec_command .loadRow p tag w s, fun h => refused (Cal.refusal_of_free h), fun c h => ⟨?_, ?_, ?_, ?_⟩⟩
  · exact fun hc => refused (Cal.refusal_of_ne h hc)
  · exact fun hc hp => refused (Cal.refusal_of_pending h hc hp)
  · exact fun hc hp hbad => State.goodFrame_leaves hadmits (serveLoadRow_of_no_row h hc hp (rowAddr_eq_none_iff.mpr hbad))
  intro hc hp hrow
  obtain ⟨a, ha⟩ := Option.ne_none_iff_exists'.mp (mt rowAddr_eq_none_iff.mp hrow)
  obtain ⟨htable, hindex⟩ := numbers_of_rowAddr ha
  obtain ⟨hans, hframe⟩ := State.goodFrame_withClaim hadmits (tag := tag) (serveLoadRow_of_row h hc hp ha)
  have hcal := congrArg State.cal hframe
  rw [rowWords_load] at hans
  rw [htable, hindex]
  exact ⟨hans, by rw [hcal]; exact hframe, _, hcal, rfl, rfl, CalSet.load_line _ _ _ _, CalSet.load_offset _ _ _ _,
    CalSet.load_thr _ _ _ _⟩

/-- What READ_ROW answers from a set: the row that the request's numbers name, or BAD_ARGUMENT (R151). -/
def RowRead (answered : ResultCode → Words → Prop) (w : Words) (set : CalSet) : Prop :=
  (∀ i : Fin 12, w.w0.toNat = 0 → w.w1.toNat = i.val → answered .ok ⟨w.w0, w.w1, word set.line[i].x, word set.line[i].y⟩)
  ∧ (∀ i : Fin 6, w.w0.toNat = 1 → w.w1.toNat = i.val → answered .ok ⟨w.w0, w.w1, word set.offset[i].x, word set.offset[i].y⟩)
  ∧ (∀ i : Fin 27, w.w0.toNat = 2 → w.w1.toNat = i.val → answered .ok ⟨w.w0, w.w1, word set.thr[i], 0⟩)
  ∧ (2 < w.w0.toNat ∨ (w.w0.toNat = 0 ∧ 12 ≤ w.w1.toNat) ∨ (w.w0.toNat = 1 ∧ 6 ≤ w.w1.toNat)
      ∨ (w.w0.toNat = 2 ∧ 27 ≤ w.w1.toNat) → answered .badArgument zeroWords)

/-- READ_ROW answers from the set that its service reads. -/
theorem rowRead_of_serve {p : PortId} {s : State} (h : s.Admits .readRow p) {tag : Byte} {w : Words} {set : CalSet}
    (hs : serveReadRow p w (s.frameEnds p (requestBits .readRow tag w))
      = readRowOf set w (s.frameEnds p (requestBits .readRow tag w))) :
    RowRead (Answered .readRow p tag w · · s (s.goodFrame .readRow p tag w)) w set := by
  have row (a : RowAddr) (ht : w.w0.toNat = a.table) (hi : w.w1.toNat = a.index) :
      Answered .readRow p tag w .ok (rowWords w.w0 w.w1 (set.rowValues a)) s (s.goodFrame .readRow p tag w) :=
    (State.goodFrame_leaves h (hs.trans (readRowOf_of_row (rowAddr_of_numbers ht hi)))).1
  exact ⟨fun i => row (.line i), fun i => row (.offset i), fun i => row (.thr i),
    fun hbad => (State.goodFrame_leaves h (hs.trans (readRowOf_of_no_row (rowAddr_eq_none_iff.mpr hbad)))).1⟩

/-- READ_ROW leaves all but its port. -/
theorem State.goodFrame_readRow_frame {p : PortId} {s : State} (h : s.Admits .readRow p) (tag : Byte) (w : Words) :
    s.goodFrame .readRow p tag w = { s with ports := (s.goodFrame .readRow p tag w).ports } := by
  rw [State.goodFrame_admitted h]
  simp only [serve, serveReadRow_state]
  rfl

/-- Settles O49: the staging flag and the claim choose the set that is read, or refuse. -/
theorem readRowReadsEitherSet : Obligations.ReadRowReadsEitherSet := by
  intro p tag w s hlive henabled
  have hadmits : s.Admits .readRow p := State.admits_of_unbound hlive henabled rfl
  exact ⟨_, exec_command .readRow p tag w s, State.goodFrame_readRow_frame hadmits tag w,
    fun hflag => rowRead_of_serve hadmits (serveReadRow_active hflag),
    fun hflag h => (State.goodFrame_leaves hadmits (serveReadRow_of_free hflag h)).1,
    fun c h hflag => ⟨fun hc => (State.goodFrame_leaves hadmits (serveReadRow_of_ne hflag h hc)).1,
      fun hc => rowRead_of_serve hadmits (serveReadRow_staging hflag h hc)⟩⟩

end Sys2Proof.Machine
end

section
/-! SUPPORT. The notice sets of a port kind by kind: a raising, the attention line, the removal of a mask (R163, R165, R167), and a
frame of READ_NOTICES, CLEAR_NOTICES or SET_NOTICE_ENABLE as it completes (R166 to R168). -/

namespace Sys2Proof.Machine

/-! ### The sets bit by bit (R163, R165, R167) -/

/-- The raw set after a raising: the kind has joined it (R163). -/
theorem Notices.raise_raw_getLsbD (k : NoticeKind) (n : Notices) (i : Nat) :
    (n.raise k).raw.getLsbD i = true ↔ n.raw.getLsbD i = true ∨ i = k.code := by
  rw [raise_eq, BitVec.getLsbD_or, NoticeKind.getLsbD_bit, Bool.or_eq_true, decide_eq_true_iff]

/-- The repeat set after a raising: the kind has joined it if it was raw (R163). -/
theorem Notices.raise_rep_getLsbD (k : NoticeKind) (n : Notices) (i : Nat) :
    (n.raise k).rep.getLsbD i = true ↔ n.rep.getLsbD i = true ∨ (i = k.code ∧ n.raw.getLsbD i = true) := by
  rw [raise_eq, BitVec.getLsbD_or, BitVec.getLsbD_and, NoticeKind.getLsbD_bit, Bool.or_eq_true, Bool.and_eq_true,
    decide_eq_true_iff, and_comm (a := n.raw.getLsbD i = true)]

/-- A set is not empty exactly when it has a kind. -/
theorem ne_zero_iff_exists_getLsbD (m : Word) : m ≠ 0 ↔ ∃ i, m.getLsbD i = true := by
  constructor
  · contrapose!
    exact fun hnone => BitVec.eq_of_getLsbD_eq fun i _ => by simpa using hnone i
  · rintro ⟨i, hi⟩ rfl
    simp at hi

/-- A port has a pending kind exactly when one of its raw kinds is enabled (R165). -/
theorem Notices.pendingSet_ne_zero_iff (n : Notices) :
    n.pendingSet ≠ 0 ↔ ∃ i, n.raw.getLsbD i = true ∧ n.enable.getLsbD i = true := by
  simp only [ne_zero_iff_exists_getLsbD, pendingSet, BitVec.getLsbD_and, Bool.and_eq_true]

theorem State.attn_iff (s : State) (p : PortId) : s.attn p = true ↔ s.rstN = true ∧ (s.ntc.get p).pendingSet ≠ 0 := by
  rw [attn, Bool.and_eq_true, bne_iff_ne]

/-- A set without the kinds of a mask, kind by kind; above bit 15 both sides are clear. -/
theorem getLsbD_and_not (m mask : Word) (i : Nat) : (m &&& ~~~mask).getLsbD i = (m.getLsbD i && !mask.getLsbD i) := by
  rw [BitVec.getLsbD_and, BitVec.getLsbD_not]
  by_cases hi : i < 16
  · simp [hi]
  · simp [BitVec.getLsbD_of_ge m i (Nat.le_of_not_lt hi)]

theorem Notices.clear_raw_getLsbD (mask : Word) (n : Notices) (i : Nat) :
    (n.clear mask).raw.getLsbD i = (n.raw.getLsbD i && !mask.getLsbD i) := getLsbD_and_not n.raw mask i

theorem Notices.clear_rep_getLsbD (mask : Word) (n : Notices) (i : Nat) :
    (n.clear mask).rep.getLsbD i = (n.rep.getLsbD i && !mask.getLsbD i) := getLsbD_and_not n.rep mask i

@[simp] theorem Notices.clear_enable (mask : Word) (n : Notices) : (n.clear mask).enable = n.enable := rfl

/-- Settles O53: a raising joins the raw or the repeat set bit by bit, and the line follows the pending set. -/
theorem raisingANotice : Obligations.RaisingANotice := by
  constructor
  · intro k n i _
    exact ⟨n.raise_raw_getLsbD k i, n.raise_rep_getLsbD k i, n.raise_enable k⟩
  · intro s p
    rw [State.attn_iff, Notices.pendingSet_ne_zero_iff]

/-! ### The frames of the notice requests (R166 to R168) -/

/-- What a notice request answered OK leaves: its own port's sets as given, all else but its port as it was. -/
def NoticesAnswered (k : FrameKind) (p : PortId) (tag : Byte) (w words : Words) (n : Notices) (s t : State) : Prop :=
  exec (k.command p tag w) s = .next t ∧ t = { s with ports := t.ports, ntc := t.ntc }
    ∧ Answered k p tag w .ok words s t ∧ t.ntc.get p = n ∧ ∀ q, q ≠ p → t.ntc.get q = s.ntc.get q

/-- A completed frame whose service replaces its own port's notice sets and no more. -/
theorem noticesAnswered_of_serve {k : FrameKind} {p : PortId} {s : State} (h : s.Admits k p) {tag : Byte} {w words : Words}
    {n : Notices}
    (hs : serve k p w (s.frameEnds p (requestBits k tag w))
      = ⟨{ s.frameEnds p (requestBits k tag w) with ntc := s.ntc.set p n }, .ok, words⟩) :
    NoticesAnswered k p tag w words n s (s.goodFrame k p tag w) := by
  have hans := State.goodFrame_answered h tag w (by rw [hs])
  rw [hs] at hans
  have hntc : (s.goodFrame k p tag w).ntc = s.ntc.set p n := by rw [State.goodFrame_admitted h, hs]; rfl
  refine ⟨exec_command k p tag w s, ?_, hans, ?_, fun q hq => ?_⟩
  · rw [State.goodFrame_admitted h, hs]; rfl
  · rw [hntc, PerPort.get_set_self]
  · rw [hntc, PerPort.get_set_ne _ _ hq]

/-- Settles O55: the port's sets become those that the removal of the mask leaves, and the answer tells them. -/
theorem clearNotices : Obligations.ClearNotices := by
  intro p tag w s hlive henabled
  have hadmits : s.Admits .clearNotices p := State.admits_of_unbound hlive henabled rfl
  obtain ⟨hexec, hframe, hans, hsets, hothers⟩ :=
    noticesAnswered_of_serve hadmits (tag := tag) (w := w) (n := (s.ntc.get p).clear w.w0) rfl
  refine ⟨_, hexec, hframe, ?_⟩
  dsimp only
  rw [hsets]
  exact ⟨hans, Notices.clear_enable _ _, Notices.clear_raw_getLsbD _ _, Notices.clear_rep_getLsbD _ _, hothers⟩

/-- Settles O54: the read leaves every set, and the new enable set takes the old one's place. -/
theorem readNoticesAndSetEnable : Obligations.ReadNoticesAndSetEnable := by
  intro p tag w s hlive henabled
  have hread : s.Admits .readNotices p := State.admits_of_unbound hlive henabled rfl
  have hset : s.Admits .setNoticeEnable p := State.admits_of_unbound hlive henabled rfl
  constructor
  · obtain ⟨hans, hframe⟩ := State.goodFrame_leaves hread (tag := tag) (w := w) rfl
    exact ⟨_, exec_command .readNotices p tag w s, hframe, hans⟩
  · exact ⟨_, noticesAnswered_of_serve hset (n := { s.ntc.get p with enable := w.w0 }) rfl⟩

end Sys2Proof.Machine
end

section
/-! SUPPORT. What a report, a DECLARE, a boundary, a commit and each stage of an operation make of the fields of the state, and the
notices that each raises: said once, so that no later proof unfolds a stage. -/

namespace Sys2Proof.Machine

/-! ### A report and a DECLARE as they are taken (R4 to R9, R27 to R32) -/

/-- What a report that SRC takes makes of the state, its source's boundary update made (R6 to R9). -/
def State.takeReport (r : Role) (w : Words) (s : State) : State :=
  let f := storeReport r (s.env.get r) w s.heldVals
  let c := acceptCtl (s.env.get r).window f.clamped (s.src.get r)
  State.broadcastIf c.2 .sourceChanged { s with heldVals := f.held, src := s.src.set r c.1 }

theorem serveReport_of_declared {r : Role} {s : State} (h : (s.src.get r).state ≠ .undeclared) (w : Words) :
    serveReport r w s =
      let f := storeReport r (s.env.get r) w s.heldVals
      ⟨(s.finishSource r).takeReport r w, if f.clamped then .okClamped else .ok, f.echo⟩ := by
  unfold serveReport State.takeReport
  rw [if_neg h]
  simp only [State.finishSource_env, State.finishSource_heldVals]

/-- What a DECLARE that ENV takes makes of the state, its source's boundary update made (R27 to R32). -/
def State.takeDeclare (r : Role) (w : Words) (s : State) : State :=
  let e := declaredEnvelope r w
  let h := reclip r e s.heldVals
  State.broadcast .envelopeChanged
    { s with env := s.env.set r e, heldVals := h
             src := s.src.set r (declareCtl e.window (decide (h ≠ s.heldVals)) (s.src.get r)) }

theorem serveDeclare_of_open {r : Role} {s : State} (h : declareOpen s.record.mode = true) (w : Words) :
    serveDeclare r w s =
      ⟨(s.finishSource r).takeDeclare r w, if declaredEnvelope r w = sentEnvelope w then .ok else .okClamped,
        (declaredEnvelope r w).words⟩ := if_pos h

theorem serveDeclare_of_closed {r : Role} {s : State} (h : declareOpen s.record.mode = false) (w : Words) :
    serveDeclare r w s = ⟨s, .wrongMode, (s.env.get r).words⟩ := if_neg (by simp [h])

/-- A period boundary before CAL settles a commit: the timer, the pin, the edge count and the sources' parts (R99, R196, R40). -/
def State.openPeriod (pin : Bool) (s : State) : State :=
  { s with tmr := Config.periodReload, spdPin := pin, spd := s.spd.boundary, snapDone := .all false, stage := .src }

theorem State.beginPeriod_eq {s : State} (hr : s.rstN = true) (hs : s.stage = .idle) (pin : Bool) :
    s.beginPeriod pin = (s.openPeriod pin).settleCommit := if_pos ⟨hr, hs⟩

/-! ### A claim loss (R157) -/

@[simp] theorem State.loseClaim_cal (c : Claim) (s : State) :
    (s.loseClaim c).cal =
      { s.cal with claim := none, lastRejection := if c.pending then .claimLost else s.cal.lastRejection } := by
  simp [State.loseClaim]

/-- A lapse leaves the calibration store, or takes the claim from its holder (R157). -/
theorem State.lapseSignal_cal (r : Role) (s : State) : (s.lapseSignal r).cal = s.cal
    ∨ ∃ why, (s.lapseSignal r).cal = { s.cal with claim := none, lastRejection := why } := by
  unfold State.lapseSignal
  split
  · split
    · exact .inr ⟨_, State.loseClaim_cal _ _⟩
    · exact .inl rfl
  · exact .inl rfl

@[simp] theorem State.boundaryUpdate_src (r : Role) (s : State) :
    (s.boundaryUpdate r).src = s.src.set r (boundaryCtl s.cal.active.holdPeriods (s.src.get r)).1 := by
  unfold State.boundaryUpdate
  dsimp only
  split <;> simp

/-- A boundary update leaves the calibration store, or takes the claim from its holder (R157). -/
theorem State.boundaryUpdate_cal (r : Role) (s : State) : (s.boundaryUpdate r).cal = s.cal
    ∨ ∃ why, (s.boundaryUpdate r).cal = { s.cal with claim := none, lastRejection := why } := by
  unfold State.boundaryUpdate
  dsimp only
  split
  · simpa using State.lapseSignal_cal r (State.broadcastIf (boundaryCtl s.cal.active.holdPeriods (s.src.get r)).2.1 .sourceChanged
      { s with src := s.src.set r (boundaryCtl s.cal.active.holdPeriods (s.src.get r)).1 })
  · exact .inl (by simp)

/-! ### A source's part of SRC's stage (R11 to R17, R25; log 7) -/

theorem State.settleSource_of_done {r : Role} {s : State} (h : s.snapDone.get r = true) : s.settleSource r = s := if_pos h

section
variable {r : Role} {s : State} (h : s.snapDone.get r = false)
include h

theorem State.settleSource_src : (s.settleSource r).src = s.src.set r (boundaryCtl s.cal.active.holdPeriods (s.src.get r)).1 := by
  unfold State.settleSource
  rw [if_neg (by simp [h])]
  simp

theorem State.settleSource_envCopy : (s.settleSource r).envCopy = s.envCopy.set r (s.env.get r) := by
  unfold State.settleSource
  rw [if_neg (by simp [h])]
  simp

theorem State.settleSource_snapDone : (s.settleSource r).snapDone = s.snapDone.set r true := by
  unfold State.settleSource
  rw [if_neg (by simp [h])]
  simp

theorem State.settleSource_ntc : (s.settleSource r).ntc = (s.boundaryUpdate r).ntc := by
  unfold State.settleSource
  rw [if_neg (by simp [h])]

theorem State.settleSource_cal : (s.settleSource r).cal = (s.boundaryUpdate r).cal := by
  unfold State.settleSource
  rw [if_neg (by simp [h])]

/-- The snapshot after a source's part: that source's, from its updated record and its new period copy (R17, R25). -/
theorem State.settleSource_snap : (s.settleSource r).snap =
    State.snapPart r { s with src := s.src.set r (boundaryCtl s.cal.active.holdPeriods (s.src.get r)).1
                              envCopy := s.envCopy.set r (s.env.get r) } := by
  unfold State.settleSource
  rw [if_neg (by simp [h])]
  cases r <;> simp [State.snapPart]

end

/-- A source's part leaves the active set. -/
@[simp] theorem State.settleSource_active (r : Role) (s : State) : (s.settleSource r).cal.active = s.cal.active := by
  cases h : s.snapDone.get r with
  | true => rw [State.settleSource_of_done h]
  | false =>
    rw [State.settleSource_cal h]
    obtain hc | ⟨why, hc⟩ := State.boundaryUpdate_cal r s <;> rw [hc]

@[simp] theorem State.settleSource_commitCount (r : Role) (s : State) :
    (s.settleSource r).cal.commitCount = s.cal.commitCount := by
  cases h : s.snapDone.get r with
  | true => rw [State.settleSource_of_done h]
  | false =>
    rw [State.settleSource_cal h]
    obtain hc | ⟨why, hc⟩ := State.boundaryUpdate_cal r s <;> rw [hc]

/-! ### What they make of each field -/

section
variable (r : Role) (w : Words) (s : State)

@[simp] theorem State.takeReport_ports : (s.takeReport r w).ports = s.ports := by simp [State.takeReport]
@[simp] theorem State.takeReport_rstN : (s.takeReport r w).rstN = s.rstN := by simp [State.takeReport]
@[simp] theorem State.takeReport_env : (s.takeReport r w).env = s.env := by simp [State.takeReport]
@[simp] theorem State.takeReport_envCopy : (s.takeReport r w).envCopy = s.envCopy := by simp [State.takeReport]
@[simp] theorem State.takeReport_snap : (s.takeReport r w).snap = s.snap := by simp [State.takeReport]
@[simp] theorem State.takeReport_snapDone : (s.takeReport r w).snapDone = s.snapDone := by simp [State.takeReport]
@[simp] theorem State.takeReport_spd : (s.takeReport r w).spd = s.spd := by simp [State.takeReport]
@[simp] theorem State.takeReport_modeCtl : (s.takeReport r w).modeCtl = s.modeCtl := by simp [State.takeReport]
@[simp] theorem State.takeReport_request : (s.takeReport r w).request = s.request := by simp [State.takeReport]
@[simp] theorem State.takeReport_seq : (s.takeReport r w).seq = s.seq := by simp [State.takeReport]
@[simp] theorem State.takeReport_split : (s.takeReport r w).split = s.split := by simp [State.takeReport]
@[simp] theorem State.takeReport_splitOut : (s.takeReport r w).splitOut = s.splitOut := by simp [State.takeReport]
@[simp] theorem State.takeReport_stage : (s.takeReport r w).stage = s.stage := by simp [State.takeReport]
@[simp] theorem State.takeReport_record : (s.takeReport r w).record = s.record := by simp [State.takeReport]
@[simp] theorem State.takeReport_cal : (s.takeReport r w).cal = s.cal := by simp [State.takeReport]
@[simp] theorem State.takeReport_tmr : (s.takeReport r w).tmr = s.tmr := by simp [State.takeReport]
@[simp] theorem State.takeReport_heldVals :
    (s.takeReport r w).heldVals = (storeReport r (s.env.get r) w s.heldVals).held := by simp [State.takeReport]
@[simp] theorem State.takeReport_src : (s.takeReport r w).src =
    s.src.set r (acceptCtl (s.env.get r).window (storeReport r (s.env.get r) w s.heldVals).clamped (s.src.get r)).1 := by
  simp [State.takeReport]

@[simp] theorem State.takeDeclare_ports : (s.takeDeclare r w).ports = s.ports := rfl
@[simp] theorem State.takeDeclare_rstN : (s.takeDeclare r w).rstN = s.rstN := rfl
@[simp] theorem State.takeDeclare_env : (s.takeDeclare r w).env = s.env.set r (declaredEnvelope r w) := rfl
@[simp] theorem State.takeDeclare_envCopy : (s.takeDeclare r w).envCopy = s.envCopy := rfl
@[simp] theorem State.takeDeclare_snap : (s.takeDeclare r w).snap = s.snap := rfl
@[simp] theorem State.takeDeclare_snapDone : (s.takeDeclare r w).snapDone = s.snapDone := rfl
@[simp] theorem State.takeDeclare_spd : (s.takeDeclare r w).spd = s.spd := rfl
@[simp] theorem State.takeDeclare_modeCtl : (s.takeDeclare r w).modeCtl = s.modeCtl := rfl
@[simp] theorem State.takeDeclare_request : (s.takeDeclare r w).request = s.request := rfl
@[simp] theorem State.takeDeclare_seq : (s.takeDeclare r w).seq = s.seq := rfl
@[simp] theorem State.takeDeclare_split : (s.takeDeclare r w).split = s.split := rfl
@[simp] theorem State.takeDeclare_splitOut : (s.takeDeclare r w).splitOut = s.splitOut := rfl
@[simp] theorem State.takeDeclare_stage : (s.takeDeclare r w).stage = s.stage := rfl
@[simp] theorem State.takeDeclare_record : (s.takeDeclare r w).record = s.record := rfl
@[simp] theorem State.takeDeclare_cal : (s.takeDeclare r w).cal = s.cal := rfl
@[simp] theorem State.takeDeclare_tmr : (s.takeDeclare r w).tmr = s.tmr := rfl
@[simp] theorem State.takeDeclare_heldVals : (s.takeDeclare r w).heldVals = reclip r (declaredEnvelope r w) s.heldVals := rfl
@[simp] theorem State.takeDeclare_src : (s.takeDeclare r w).src =
    s.src.set r (declareCtl (declaredEnvelope r w).window
      (decide (reclip r (declaredEnvelope r w) s.heldVals ≠ s.heldVals)) (s.src.get r)) := rfl

end

/-! ### The application and the rejection of a commit (R154, R155) -/

section
variable (c : Claim) (s : State)

@[simp] theorem State.applyCommit_cal : (s.applyCommit c).cal =
    { s.cal with active := c.staging, claim := some { c with pending := false }, origin := .loaded
                 commitCount := min 65535 (s.cal.commitCount + 1) } := rfl
@[simp] theorem State.applyCommit_src : (s.applyCommit c).src = s.src.map (SourceCtl.lowerHold c.staging.holdPeriods) := rfl
@[simp] theorem State.applyCommit_spd : (s.applyCommit c).spd = s.spd.adjust s.cal.active c.staging s.spdPin := rfl
@[simp] theorem State.applyCommit_seq : (s.applyCommit c).seq = s.seq.adjust s.cal.active c.staging := rfl
@[simp] theorem State.rejectCommit_cal (why : Rejection) : (s.rejectCommit c why).cal =
    { s.cal with claim := some { c with pending := false }, lastRejection := why } := rfl

end

/-! ### The stages where they are due (R99) -/

section
variable {s : State}

theorem State.snapshotStage_eq (hr : s.rstN = true) (hs : s.stage = .src) : s.snapshotStage =
    { (((s.settleSource .vehicle).settleSource .engine).settleSource .motor).settleSource .battery with stage := .spd } :=
  if_pos ⟨hr, hs⟩

theorem State.speedStage_eq (hr : s.rstN = true) (hs : s.stage = .spd) : s.speedStage =
    State.broadcastIf (s.spd.stage s.cal.active s.snap.motorSpeed).2 .speedCheckChanged
      { s with spd := (s.spd.stage s.cal.active s.snap.motorSpeed).1, stage := .mode } := if_pos ⟨hr, hs⟩

theorem State.modeStage_eq (hr : s.rstN = true) (hs : s.stage = .mode) : s.modeStage =
    (State.broadcastIf (s.modeInput.overruled && !s.modeCtl.zoneOverruled) .zoneOverruled
      { s with seq := s.seq.cutCoolOff s.snap, modeCtl := (s.modeCtl.after s.modeInput).1
               request := (s.modeCtl.after s.modeInput).2, stage := .seq }).broadcastIf
      (s.modeInput.conflict && !s.modeCtl.overrideConflict) .overrideConflict := if_pos ⟨hr, hs⟩

/-- What SEQ's stage leaves, raises and reports in a state (R79). -/
def State.seqOut (s : State) : SeqStep := s.seqInput.step s.request s.seq

theorem State.seqStage_eq (hr : s.rstN = true) (hs : s.stage = .seq) : s.seqStage =
    s.seqOut.notices.foldl (fun t k => t.broadcast k)
      { s with seq := s.seqOut.seq, request := none, stage := .split
               modeCtl := s.modeCtl.settle s.cal.active s.snap.battery.soc s.seqOut.outcome } := if_pos ⟨hr, hs⟩

theorem State.splitStage_eq (hr : s.rstN = true) (hs : s.stage = .split) : s.splitStage =
    State.broadcastIf (s.split.shortfall s.cal.active.shortfallDwell s.splitInput.out.tu).2 .shortfall
      { s with split := (s.split.shortfall s.cal.active.shortfallDwell s.splitInput.out.tu).1
               splitOut := s.splitInput.out, stage := .publish } := if_pos ⟨hr, hs⟩

theorem State.publishStage_eq (hr : s.rstN = true) (hs : s.stage = .publish) : s.publishStage =
    State.broadcastIf (modeChange s.record s.newRecord) .modeChanged
      { s with record := s.newRecord
               split := { s.split with prevTd := s.newRecord.td, prevTe := s.newRecord.te, prevTm := s.newRecord.tm }
               epochPin := true, epochTimer := Config.epochPulse, stage := .idle } := if_pos ⟨hr, hs⟩

/-! ### The notices of each operation (R163, R164) -/

/-- Raisings speak of the ports and the notice sets alone. -/
theorem Raised.congr {l : List NoticeKind} {s t u : State} (h : Raised l s t) (hu : u.ntc = t.ntc) : Raised l s u := by
  intro q
  rw [hu]
  exact h q

theorem Raised.base {l : List NoticeKind} {s t u : State} (h : Raised l t u) (hn : t.ntc = s.ntc) (hp : t.ports = s.ports) :
    Raised l s u := by
  intro q
  rw [← hn, ← hp]
  exact h q

theorem Raised.broadcast {l : List NoticeKind} {s t : State} (h : Raised l s t) (hp : t.ports = s.ports) (k : NoticeKind) :
    Raised (l ++ [k]) s (t.broadcast k) := h.trans hp (State.broadcast_raised k t)

theorem Raised.broadcastIf {l : List NoticeKind} {s t : State} (h : Raised l s t) (hp : t.ports = s.ports) (b : Bool)
    (k : NoticeKind) : Raised (l ++ if b then [k] else []) s (t.broadcastIf b k) := h.trans hp (State.broadcastIf_raised b k t)

/-- The notices of a claim's loss (R157). -/
def Claim.lossNotices (c : Claim) : List NoticeKind := (if c.pending then [.calRejected] else []) ++ [.claimLost]

theorem State.loseClaim_raised (c : Claim) (s : State) : Raised c.lossNotices s (s.loseClaim c) :=
  ((State.broadcastIf_raised _ _ _).base (by rfl) (by rfl)).broadcast (by simp) _

/-- The notices of a source's entry to LAPSED, as CAL takes it (R157). -/
def State.lapseNotices (r : Role) (s : State) : List NoticeKind :=
  match s.cal.claim with
  | some c => if (s.ports.get c.holder).role = r then c.lossNotices else []
  | none => []

theorem State.lapseSignal_raised (r : Role) (s : State) : Raised (s.lapseNotices r) s (s.lapseSignal r) := by
  unfold State.lapseNotices State.lapseSignal
  cases s.cal.claim with
  | none => exact Raised.refl _ _ rfl
  | some c =>
    dsimp only
    split
    · exact State.loseClaim_raised c s
    · exact Raised.refl _ _ rfl

/-- The notices of a source's boundary update (R23, R157). -/
def State.boundaryNotices (r : Role) (s : State) : List NoticeKind :=
  let b := boundaryCtl s.cal.active.holdPeriods (s.src.get r)
  (if b.2.1 then [.sourceChanged] else []) ++ (if b.2.2 then s.lapseNotices r else [])

theorem State.lapseNotices_congr {r : Role} {s t : State} (hc : t.cal = s.cal) (hp : t.ports = s.ports) :
    t.lapseNotices r = s.lapseNotices r := by
  unfold State.lapseNotices
  rw [hc, hp]

theorem State.boundaryUpdate_raised (r : Role) (s : State) : Raised (s.boundaryNotices r) s (s.boundaryUpdate r) := by
  unfold State.boundaryNotices State.boundaryUpdate
  dsimp only
  have hchange := (State.broadcastIf_raised (boundaryCtl s.cal.active.holdPeriods (s.src.get r)).2.1 .sourceChanged
    { s with src := s.src.set r (boundaryCtl s.cal.active.holdPeriods (s.src.get r)).1 }).base (s := s) rfl rfl
  refine hchange.trans (by simp) ?_
  split
  · have hlapse := State.lapseSignal_raised r
      (State.broadcastIf (boundaryCtl s.cal.active.holdPeriods (s.src.get r)).2.1 .sourceChanged
        { s with src := s.src.set r (boundaryCtl s.cal.active.holdPeriods (s.src.get r)).1 })
    rwa [State.lapseNotices_congr (s := s) (by simp) (by simp)] at hlapse
  · exact Raised.refl _ _ rfl

theorem State.settleSource_raised {r : Role} (hd : s.snapDone.get r = false) :
    Raised (s.boundaryNotices r) s (s.settleSource r) :=
  (State.boundaryUpdate_raised r s).congr (State.settleSource_ntc hd)

theorem State.takeReport_raised (r : Role) (w : Words) (s : State) :
    Raised (if (acceptCtl (s.env.get r).window (storeReport r (s.env.get r) w s.heldVals).clamped (s.src.get r)).2 then
      [.sourceChanged] else []) s (s.takeReport r w) := State.broadcastIf_raised _ _ _

theorem State.takeDeclare_raised (r : Role) (w : Words) (s : State) : Raised [.envelopeChanged] s (s.takeDeclare r w) :=
  State.broadcast_raised _ _

theorem State.applyCommit_raised (c : Claim) (s : State) : Raised [.calCommitted] s (s.applyCommit c) :=
  State.broadcast_raised _ _

theorem State.rejectCommit_raised (c : Claim) (why : Rejection) (s : State) : Raised [.calRejected] s (s.rejectCommit c why) :=
  State.broadcast_raised _ _

theorem State.speedStage_raised (hr : s.rstN = true) (hs : s.stage = .spd) :
    Raised (if (s.spd.stage s.cal.active s.snap.motorSpeed).2 then [.speedCheckChanged] else []) s s.speedStage := by
  rw [State.speedStage_eq hr hs]
  exact State.broadcastIf_raised _ _ _

theorem State.modeStage_raised (hr : s.rstN = true) (hs : s.stage = .mode) :
    Raised ((if s.modeInput.overruled && !s.modeCtl.zoneOverruled then [.zoneOverruled] else [])
      ++ (if s.modeInput.conflict && !s.modeCtl.overrideConflict then [.overrideConflict] else [])) s s.modeStage := by
  rw [State.modeStage_eq hr hs]
  exact ((State.broadcastIf_raised _ _ _).base (by rfl) (by rfl)).broadcastIf (by simp) _ _

theorem State.seqStage_raised (hr : s.rstN = true) (hs : s.stage = .seq) : Raised s.seqOut.notices s s.seqStage := by
  rw [State.seqStage_eq hr hs]
  exact State.broadcastAll_raised _ _

theorem State.splitStage_raised (hr : s.rstN = true) (hs : s.stage = .split) :
    Raised (if (s.split.shortfall s.cal.active.shortfallDwell s.splitInput.out.tu).2 then [.shortfall] else []) s s.splitStage := by
  rw [State.splitStage_eq hr hs]
  exact State.broadcastIf_raised _ _ _

theorem State.publishStage_raised (hr : s.rstN = true) (hs : s.stage = .publish) :
    Raised (if modeChange s.record s.newRecord then [.modeChanged] else []) s s.publishStage := by
  rw [State.publishStage_eq hr hs]
  exact State.broadcastIf_raised _ _ _

end

end Sys2Proof.Machine
end

section
/-! SUPPORT. What a step is made of, said once: the operations that the commands and the clock run, so that a property that each
operation keeps is kept by every step. -/

namespace Sys2Proof.Machine

/-! ### What serving a request makes of the state (R180) -/

theorem serveClaim_slot (p : PortId) (s : State) : (serveClaim p s).state = s
    ∨ ∃ c, (serveClaim p s).state = s.withClaim c ∧ ∀ d, c = some d → d.holder = p := by
  unfold serveClaim
  split
  · exact .inr ⟨_, rfl, by simp⟩
  · split <;> exact .inl rfl

theorem serveLoadRow_slot (p : PortId) (w : Words) (s : State) : (serveLoadRow p w s).state = s
    ∨ ∃ c, (serveLoadRow p w s).state = s.withClaim c ∧ ∀ d, c = some d → d.holder = p := by
  unfold serveLoadRow
  split
  · exact .inl rfl
  · split_ifs with hp
    · exact .inl rfl
    · exact .inl rfl
    · split
      · exact .inl rfl
      · exact .inr ⟨_, rfl, by simpa using hp⟩

theorem serveCommit_slot (p : PortId) (s : State) : (serveCommit p s).state = s
    ∨ ∃ c, (serveCommit p s).state = s.withClaim c ∧ ∀ d, c = some d → d.holder = p := by
  unfold serveCommit
  split
  · exact .inl rfl
  · split_ifs with hp
    · exact .inl rfl
    · exact .inl rfl
    · exact .inr ⟨_, rfl, by simpa using hp⟩

/-- A request leaves the state, or is a report or a DECLARE, or sets the claim slot for its own port, or refreshes its port's page
snapshot, or sets its own port's notice sets without a repeat that is not raw (R180). -/
inductive Request.Effect (p : PortId) (s : State) : State → Prop
  | leaves : Request.Effect p s s
  | report (r : Role) (w : Words) : Request.Effect p s (serveReport r w s).state
  | declare (r : Role) (w : Words) : Request.Effect p s (serveDeclare r w s).state
  | claim (c : Option Claim) (h : ∀ d, c = some d → d.holder = p) : Request.Effect p s (s.withClaim c)
  | page (n : Word) : Request.Effect p s (s.refreshPage p n)
  | notices (n : Notices) (h : (s.ntc.get p).Contained → n.Contained) : Request.Effect p s { s with ntc := s.ntc.set p n }

theorem serve_effect (k : FrameKind) (p : PortId) (w : Words) (s : State) : Request.Effect p s (serve k p w s).state := by
  have slot {t : State} (h : t = s ∨ ∃ c, t = s.withClaim c ∧ ∀ d, c = some d → d.holder = p) : Request.Effect p s t := by
    obtain rfl | ⟨c, rfl, hc⟩ := h
    · exact .leaves
    · exact .claim c hc
  cases k with
  | nop => exact .leaves
  | identify => exact .leaves
  | vehicleReport => exact .report .vehicle w
  | engineReport => exact .report .engine w
  | motorReport => exact .report .motor w
  | batteryReport => exact .report .battery w
  | declareVehicle => exact .declare .vehicle w
  | declareEngine => exact .declare .engine w
  | declareMotor => exact .declare .motor w
  | declareBattery => exact .declare .battery w
  | readGrant => exact .leaves
  | readSplit =>
    obtain h | h := serveReadSplit_state p w s
    · exact slot (.inl h)
    · rw [serve, h]; exact .page w.w0
  | readStatus => rw [serve, serveReadStatus_state]; exact .leaves
  | readNotices => exact .leaves
  | clearNotices => exact .notices _ (Notices.clear_contained _ _)
  | setNoticeEnable => exact .notices _ id
  | claim => exact slot (serveClaim_slot p s)
  | release =>
    obtain h | h := serveRelease_state p s
    · exact slot (.inl h)
    · exact slot (.inr ⟨none, h, by simp⟩)
  | loadRow => exact slot (serveLoadRow_slot p w s)
  | commit => exact slot (serveCommit_slot p s)
  | readRow => rw [serve, serveReadRow_state]; exact .leaves

/-! ### The operations of a step -/

/-- What frames and PSEL may make of a port: the role and the disabled flag stay, the receive buffer and the transmit position stay
within 88 bits, and the page snapshot is the old one or a record that REC holds (R174, R138). -/
structure Port.Reworked (record : SplitRecord) (old new : Port) : Prop where
  role : new.role = old.role
  disabled : new.disabled = old.disabled
  buffers : old.rx.length ≤ 88 ∧ old.txPos ≤ 88 → new.rx.length ≤ 88 ∧ new.txPos ≤ 88
  page : new.page = old.page ∨ new.page = record

/-- A property of the state that what frames and PSEL do keeps: the changes of a port, the reports and the DECLAREs, the changes of the
claim slot and of a port's own notice sets (R176, R180). -/
structure KeptByPorts (P : State → Prop) : Prop where
  port : ∀ p q s, Port.Reworked s.record (s.ports.get p) q → P s → P (s.setPort p q)
  notices : ∀ p n s, s.rstN = true → s.Enabled p → ((s.ntc.get p).Contained → n.Contained) → P s →
    P { s with ntc := s.ntc.set p n }
  report : ∀ r w s, s.rstN = true → P s → P (serveReport r w s).state
  declare : ∀ r w s, s.rstN = true → P s → P (serveDeclare r w s).state
  claim : ∀ p c s, s.rstN = true → s.Enabled p → (∀ d, c = some d → d.holder = p) → P s → P (s.withClaim c)

namespace KeptByPorts

variable {P : State → Prop} (h : KeptByPorts P)
include h

theorem answer (p : PortId) (r : Response) {s : State} (hs : P s) : P (s.answer p r) :=
  h.port p _ s ⟨rfl, rfl, id, .inl rfl⟩ hs

theorem frameEnds (p : PortId) (l : List Bool) {s : State} (hs : P s) : P (s.frameEnds p l) :=
  h.port p _ s ⟨rfl, rfl, fun _ => ⟨by simp, by simp⟩, .inl rfl⟩ hs

theorem raiseOn (p : PortId) (k : NoticeKind) {s : State} (hr : s.rstN = true) (hp : s.Enabled p) (hs : P s) :
    P (s.raiseOn p k) := h.notices p _ s hr hp (Notices.raise_contained k _) hs

theorem serve (k : FrameKind) (p : PortId) (w : Words) {s : State} (hr : s.rstN = true) (hp : s.Enabled p) (hs : P s) :
    P (serve k p w s).state := by
  obtain ⟨t, ht⟩ : ∃ t, (Machine.serve k p w s).state = t := ⟨_, rfl⟩
  have he := serve_effect k p w s
  rw [ht] at he ⊢
  cases he with
  | leaves => exact hs
  | report r w => exact h.report r w _ hr hs
  | declare r w => exact h.declare r w _ hr hs
  | claim c hc => exact h.claim p c s hr hp hc hs
  | page n =>
    unfold State.refreshPage
    split
    · exact h.port p _ s ⟨rfl, rfl, id, .inr rfl⟩ hs
    · exact hs
  | notices n hn => exact h.notices p n s hr hp hn hs

theorem admitFrame (k : FrameKind) (p : PortId) (tag : Byte) (w : Words) {s : State} (hr : s.rstN = true) (hs : P s) :
    P (s.admitFrame k p tag w) := by
  unfold State.admitFrame
  dsimp only
  split_ifs with hd
  · exact h.answer _ _ hs
  · exact h.answer _ _ (h.serve k p w hr (Bool.eq_false_iff.mpr hd) hs)
  · exact h.answer _ _ (h.raiseOn p _ hr (Bool.eq_false_iff.mpr hd) hs)

theorem complete (p : PortId) (l : List Bool) {s : State} (hr : s.rstN = true) (hs : P s) : P (s.complete p l) := by
  unfold State.complete
  split_ifs with hd
  · exact h.answer _ _ hs
  · have hp : s.Enabled p := Bool.eq_false_iff.mpr hd
    split
    · exact h.answer _ _ (h.raiseOn p _ hr hp hs)
    · exact h.answer _ _ (h.raiseOn p _ hr hp hs)
    · exact h.answer _ _ hs
    · exact h.admitFrame _ p _ _ hr hs

theorem pselRises (p : PortId) (f : State → State) {s : State} (hf : s.rstN = true → P s → P (f s)) (hs : P s) :
    P (s.pselRises p f) := by
  unfold State.pselRises
  split_ifs with hr
  · exact h.port p _ s ⟨rfl, rfl, id, .inl rfl⟩ hs
  · exact hf hr hs
  · exact hs

theorem goodFrame (k : FrameKind) (p : PortId) (tag : Byte) (w : Words) {s : State} (hs : P s) : P (s.goodFrame k p tag w) :=
  h.pselRises p _ (fun hr hs => h.admitFrame k p tag w hr (h.frameEnds p _ hs)) hs

theorem rawFrame (p : PortId) (l : List Bool) {s : State} (hs : P s) : P (s.rawFrame p l) :=
  h.pselRises p _ (fun hr hs => h.complete p l hr (h.frameEnds p _ hs)) hs

theorem pselFalls (p : PortId) {s : State} (hs : P s) : P (s.pselFalls p) := by
  unfold State.pselFalls
  split_ifs
  · exact h.port p _ s ⟨rfl, rfl, fun _ => ⟨by simp, by simp⟩, .inl rfl⟩ hs
  · exact hs

/-- The commands of a port are made of the operations on ports, notice sets, sources and the claim. -/
theorem exec_port {c : Instr} {p : PortId} (hc : Machine.port c = some p) {s t : State} (hs : P s) (he : exec c s = .next t) :
    P t := by
  obtain rfl | rfl | ⟨b, x, rfl⟩ | ⟨k, tag, w, rfl⟩ := forms_of_port c p hc
  · cases he; exact h.pselRises p id (fun _ hs => hs) hs
  · cases he; exact h.pselFalls p hs
  · cases he; exact h.rawFrame p _ hs
  · rw [exec_command] at he; cases he; exact h.goodFrame k p tag w hs

end KeptByPorts

/-- A property of the state that every operation of which the commands and the clock are made keeps. -/
structure Kept (P : State → Prop) : Prop where
  queue : ∀ l s, P s → P { s with pending := l }
  assertReset : ∀ s, P s → P s.assertReset
  releaseReset : ∀ straps spd low s, s.rstN = false → P s → P (s.releaseReset straps spd low)
  port : ∀ p q s, Port.Reworked s.record (s.ports.get p) q → P s → P (s.setPort p q)
  notices : ∀ p n s, s.rstN = true → s.Enabled p → ((s.ntc.get p).Contained → n.Contained) → P s →
    P { s with ntc := s.ntc.set p n }
  takeReport : ∀ r w s, s.rstN = true → P s → P (s.takeReport r w)
  takeDeclare : ∀ r w s, s.rstN = true → P s → P (s.takeDeclare r w)
  claim : ∀ p c s, s.rstN = true → s.Enabled p → (∀ d, c = some d → d.holder = p) → P s → P (s.withClaim c)
  openPeriod : ∀ pin s, s.rstN = true → s.stage = .idle → P s → P (s.openPeriod pin)
  applyCommit : ∀ c s, s.rstN = true → s.stage = .src → s.cal.claim = some c → c.staging.validate = .none → P s →
    P (s.applyCommit c)
  rejectCommit : ∀ c why s, s.rstN = true → s.cal.claim = some c → P s → P (s.rejectCommit c why)
  settleSource : ∀ r s, s.rstN = true → s.stage = .src → s.snapDone.get r = false → P s → P (s.settleSource r)
  snapshotDone : ∀ s, s.rstN = true → s.stage = .src → P s → P { s with stage := .spd }
  speedStage : ∀ s, s.rstN = true → s.stage = .spd → P s → P s.speedStage
  samplePin : ∀ b s, s.rstN = true → P s → P (s.samplePin b)
  modeStage : ∀ s, s.rstN = true → s.stage = .mode → P s → P s.modeStage
  seqStage : ∀ s, s.rstN = true → s.stage = .seq → P s → P s.seqStage
  splitStage : ∀ s, s.rstN = true → s.stage = .split → P s → P s.splitStage
  publishStage : ∀ s, s.rstN = true → s.stage = .publish → P s → P s.publishStage
  pulse : ∀ b n s, P s → P { s with epochPin := b, epochTimer := n }
  sampleDiv : ∀ n s, P s → P { s with sampleDiv := n }
  tmr : ∀ s, 1 < s.tmr → P s → P { s with tmr := s.tmr - 1 }

namespace Kept

variable {P : State → Prop} (h : Kept P)
include h

/-- The boundary update of a source that is due, or of one that is not. -/
theorem settle (r : Role) {s : State} (hr : s.rstN = true) (hst : s.stage = .src) (hs : P s) : P (s.settleSource r) := by
  cases hd : s.snapDone.get r with
  | false => exact h.settleSource r s hr hst hd hs
  | true => unfold State.settleSource; rwa [if_pos hd]

theorem finishSource (r : Role) {s : State} (hr : s.rstN = true) (hs : P s) : P (s.finishSource r) := by
  unfold State.finishSource
  split_ifs with hst
  · exact h.settle r hr hst hs
  · exact hs

theorem report (r : Role) (w : Words) {s : State} (hr : s.rstN = true) (hs : P s) : P (serveReport r w s).state := by
  by_cases hu : (s.src.get r).state = .undeclared
  · rw [serveReport_of_undeclared hu]; exact hs
  · rw [serveReport_of_declared hu]
    exact h.takeReport r w _ (by simpa using hr) (h.finishSource r hr hs)

theorem declare (r : Role) (w : Words) {s : State} (hr : s.rstN = true) (hs : P s) : P (serveDeclare r w s).state := by
  cases ho : declareOpen s.record.mode with
  | true => rw [serveDeclare_of_open ho]; exact h.takeDeclare r w _ (by simpa using hr) (h.finishSource r hr hs)
  | false => rw [serveDeclare_of_closed ho]; exact hs

/-- What frames and PSEL do is made of these operations. -/
theorem byPorts : KeptByPorts P where
  port := h.port
  notices := h.notices
  report := fun r w _ hr hs => h.report r w hr hs
  declare := fun r w _ hr hs => h.declare r w hr hs
  claim := h.claim

theorem sourceExpiry (due : SourceCtl → Bool) (r : Role) {s : State} (hs : P s) : P (s.sourceExpiry due r) := by
  unfold State.sourceExpiry
  split_ifs with hd
  · obtain ⟨hr, hst, -⟩ := hd
    exact h.settle r hr hst hs
  · exact hs

theorem snapshotStage {s : State} (hs : P s) : P s.snapshotStage := by
  unfold State.snapshotStage
  split_ifs with hd
  · obtain ⟨hr, hst⟩ := hd
    have settle (r : Role) {t : State} (ht : t.rstN = true ∧ t.stage = .src ∧ P t) :
        (t.settleSource r).rstN = true ∧ (t.settleSource r).stage = .src ∧ P (t.settleSource r) := by
      obtain ⟨hr, hst, ht⟩ := ht
      exact ⟨by simpa using hr, by simpa using hst, h.settle r hr hst ht⟩
    obtain ⟨hr', hst', hs'⟩ := settle .battery (settle .motor (settle .engine (settle .vehicle ⟨hr, hst, hs⟩)))
    exact h.snapshotDone _ hr' hst' hs'
  · exact hs

theorem beginPeriod (pin : Bool) {s : State} (hs : P s) : P (s.beginPeriod pin) := by
  by_cases hg : s.rstN = true ∧ s.stage = .idle
  · obtain ⟨hr, hst⟩ := hg
    rw [State.beginPeriod_eq hr hst]
    have ho := h.openPeriod pin s hr hst hs
    unfold State.settleCommit
    split
    · next c hc =>
      split_ifs with hp hv
      · exact h.applyCommit c _ hr rfl hc hv ho
      · exact h.rejectCommit c _ _ hr hc ho
      · exact ho
    · exact ho
  · unfold State.beginPeriod; rwa [if_neg hg]

theorem anySpeedStage {s : State} (hs : P s) : P s.speedStage := by
  by_cases hg : s.rstN = true ∧ s.stage = .spd
  · exact h.speedStage s hg.1 hg.2 hs
  · unfold State.speedStage; rwa [if_neg hg]

theorem anySample (b : Bool) {s : State} (hs : P s) : P (s.samplePin b) := by
  by_cases hg : s.rstN = true
  · exact h.samplePin b s hg hs
  · unfold State.samplePin; rwa [if_neg hg]

theorem anyModeStage {s : State} (hs : P s) : P s.modeStage := by
  by_cases hg : s.rstN = true ∧ s.stage = .mode
  · exact h.modeStage s hg.1 hg.2 hs
  · unfold State.modeStage; rwa [if_neg hg]

theorem anySeqStage {s : State} (hs : P s) : P s.seqStage := by
  by_cases hg : s.rstN = true ∧ s.stage = .seq
  · exact h.seqStage s hg.1 hg.2 hs
  · unfold State.seqStage; rwa [if_neg hg]

theorem anySplitStage {s : State} (hs : P s) : P s.splitStage := by
  by_cases hg : s.rstN = true ∧ s.stage = .split
  · exact h.splitStage s hg.1 hg.2 hs
  · unfold State.splitStage; rwa [if_neg hg]

theorem anyPublishStage {s : State} (hs : P s) : P s.publishStage := by
  by_cases hg : s.rstN = true ∧ s.stage = .publish
  · exact h.publishStage s hg.1 hg.2 hs
  · unfold State.publishStage; rwa [if_neg hg]

theorem anyRelease (straps : PerPort StrapPins) (spd : Bool) (low : PerPort Bool) {s : State} (hs : P s) :
    P (s.releaseReset straps spd low) := by
  cases hr : s.rstN with
  | false => exact h.releaseReset straps spd low s hr hs
  | true => unfold State.releaseReset; rwa [if_pos hr]

theorem timeoutStage (st : SeqState) {s : State} (hs : P s) : P (s.timeoutStage st) := by
  unfold State.timeoutStage
  split_ifs
  · exact h.anySeqStage hs
  · exact hs

theorem exec {c : Instr} {s t : State} (hs : P s) (he : exec c s = .next t) : P t := by
  cases hc : Machine.port c with
  | some p => exact h.byPorts.exec_port hc hs he
  | none =>
    cases c <;> simp only [Machine.port, reduceCtorEq] at hc
    case rstNAsserted => cases he; exact h.assertReset s hs
    case rstNReleased => cases he; exact h.anyRelease _ _ _ hs
    case periodBoundary pin => cases he; exact h.beginPeriod pin hs
    case snapshot => cases he; exact h.snapshotStage hs
    case freshnessExpiry r => cases he; exact h.sourceExpiry _ r hs
    case holdExpiry r => cases he; exact h.sourceExpiry _ r hs
    case requalifyExpiry r => cases he; exact h.sourceExpiry _ r hs
    case spdSample b => cases he; exact h.anySample b hs
    case speedUnitStage => cases he; exact h.anySpeedStage hs
    case modeDecision => cases he; exact h.anyModeStage hs
    case sequencerStage => cases he; exact h.anySeqStage hs
    case crankTimeout => cases he; exact h.timeoutStage _ hs
    case syncTimeout => cases he; exact h.timeoutStage _ hs
    case clutchTimeout => cases he; exact h.timeoutStage _ hs
    case releaseTimeout => cases he; exact h.timeoutStage _ hs
    case offTimeout => cases he; exact h.timeoutStage _ hs
    case coolOffEnd =>
      cases he
      split
      · exact h.anySeqStage hs
      · exact hs
    case splitStage => cases he; exact h.anySplitStage hs
    case publication => cases he; exact h.anyPublishStage hs
    case epochPulseEnd => cases he; exact h.pulse false 0 s hs

theorem clockEpoch {s : State} (hs : P s) : P s.clockEpoch := by
  unfold State.clockEpoch
  split_ifs
  · exact h.pulse false 0 s hs
  · exact h.pulse s.epochPin _ s hs
  · exact hs

theorem clockStage {s : State} (hs : P s) : P s.clockStage := by
  unfold State.clockStage
  split
  · exact hs
  · exact h.snapshotStage hs
  · exact h.anySpeedStage hs
  · exact h.anyModeStage hs
  · exact h.anySeqStage hs
  · exact h.anySplitStage hs
  · exact h.anyPublishStage hs

theorem clockSample {s : State} (hs : P s) : P s.clockSample := by
  unfold State.clockSample
  split_ifs
  · exact h.anySample _ hs
  · exact h.sampleDiv _ s hs

theorem clockTimer {s : State} (hs : P s) : P s.clockTimer := by
  unfold State.clockTimer
  split_ifs with ht
  · exact h.beginPeriod _ hs
  · exact h.tmr s (by omega) hs

theorem clock {s : State} (hs : P s) : P s.clock := by
  unfold State.clock
  split_ifs
  · exact h.clockTimer (h.clockSample (h.clockStage (h.clockEpoch hs)))
  · exact hs

/-- Every step keeps what each operation keeps. -/
theorem step {s t : State} (hs : P s) (he : step s = .next t) : P t := by
  unfold Machine.step at he
  split at he
  · cases he; exact h.clock hs
  · exact h.exec (h.queue _ s hs) he

end Kept

end Sys2Proof.Machine
end

section
/-! SUPPORT. What every operation keeps of the source records (R1, R10, R24). -/

namespace Sys2Proof.Machine

/-! ### One record -/

section
variable {h : Nat} {e : Envelope} {c : SourceCtl}

theorem sourceNotes_reset (h : Nat) : SourceNotes h .reset .reset := by constructor <;> simp [SourceCtl.reset]

/-- The boundary update keeps the notes: an aging source has no freshness left, a lapsing one no hold (R11 to R14). -/
theorem SourceNotes.boundaryCtl (n : SourceNotes h e c) : SourceNotes h e (boundaryCtl h c).1 := by
  obtain ⟨hhold, hrequal, hmax, hfresh, haged, hholdMax, hdecl⟩ := n
  unfold Machine.boundaryCtl
  split <;> rename_i hst
  · exact ⟨hhold, hrequal, hmax, hfresh, haged, hholdMax, hdecl⟩
  · split
    · constructor <;> simp_all
    · constructor <;> simp_all
      omega
  · split
    · constructor <;> simp_all
    · constructor <;> simp_all
      omega
  · constructor <;> simp_all
    · split <;> omega
    · omega

/-- An accepted report keeps the notes: the counter is F, and the third counted report makes the source FRESH (R6 to R10). -/
theorem SourceNotes.acceptCtl (n : SourceNotes h e c) (b : Bool) :
    SourceNotes h e (acceptCtl e.window b c).1 := by
  obtain ⟨hhold, hrequal, hmax, hfresh, haged, hholdMax, hdecl⟩ := n
  unfold Machine.acceptCtl
  dsimp only
  split <;> rename_i hst
  · constructor <;> simp_all
  · constructor <;> simp_all
  · constructor <;> simp_all
  · split_ifs <;> constructor <;> simp_all

theorem declaredEnvelope_window (r : Role) (w : Words) : 2 ≤ (declaredEnvelope r w).e3 ∧ (declaredEnvelope r w).e3 ≤ 50 := by
  cases r <;> exact clamp_between (by decide) _

/-- A DECLARE keeps the notes: F is at least 2, so the record and its envelope are both declared (R30, R31). -/
theorem SourceNotes.declareCtl (n : SourceNotes h e c) (r : Role) (w : Words) (b : Bool) :
    SourceNotes h (declaredEnvelope r w) (declareCtl (declaredEnvelope r w).window b c) := by
  have hne : declaredEnvelope r w ≠ .reset := fun he => by
    have := declaredEnvelope_window r w
    rw [he] at this
    exact absurd this.1 (by decide)
  obtain ⟨hhold, hrequal, hmax, hfresh, haged, hholdMax, hdecl⟩ := n
  unfold Machine.declareCtl
  dsimp only
  split <;> rename_i hst <;> constructor <;> simp_all

/-- The application of a set keeps the notes under the new hold periods (R16). -/
theorem SourceNotes.lowerHold (n : SourceNotes h e c) (g : Nat) : SourceNotes g e (c.lowerHold g) := by
  obtain ⟨hhold, hrequal, hmax, hfresh, haged, hholdMax, hdecl⟩ := n
  unfold SourceCtl.lowerHold
  split_ifs with hst
  · exact ⟨fun _ => hst, hrequal, hmax, hfresh, haged, Nat.min_le_right _ _, hdecl⟩
  · have hzero : c.hold = 0 := by by_contra hn; exact hst (hhold hn)
    exact ⟨hhold, hrequal, hmax, hfresh, haged, by omega, hdecl⟩

end

/-! ### The four records -/

/-- The notes speak of the hold periods, the envelopes and the records alone. -/
theorem State.SourcesOk.congr {s t : State} (h : s.SourcesOk) (hc : t.cal.active = s.cal.active) (he : t.env = s.env)
    (hs : t.src = s.src) : t.SourcesOk := by
  unfold State.SourcesOk at *
  rwa [hc, he, hs]

/-- A change of one source's record and envelope that keeps its notes keeps the four. -/
theorem State.SourcesOk.update {s t : State} (h : s.SourcesOk) (r : Role) {e : Envelope} {c : SourceCtl}
    (hc : t.cal.active = s.cal.active) (he : t.env = s.env.set r e) (hs : t.src = s.src.set r c)
    (hn : SourceNotes s.cal.active.holdPeriods e c) : t.SourcesOk := by
  intro q
  rw [hc, he, hs, PerRole.get_set, PerRole.get_set]
  split
  · exact hn
  · exact h q

theorem sourcesOk_kept : Kept State.SourcesOk where
  queue _ _ h := h.congr rfl rfl rfl
  assertReset _ _ := fun r => by cases r <;> exact sourceNotes_reset _
  releaseReset _ _ _ s hr h := by unfold State.releaseReset; rw [hr]; exact h.congr rfl rfl rfl
  port _ _ _ _ h := h.congr rfl rfl rfl
  notices _ _ _ _ _ _ h := h.congr rfl rfl rfl
  takeReport r w s _ h := h.update r (by simp) (by simp) (State.takeReport_src r w s) ((h r).acceptCtl _)
  takeDeclare r w s _ h := h.update r rfl rfl rfl ((h r).declareCtl r w _)
  claim _ _ _ _ _ _ h := h.congr rfl rfl rfl
  openPeriod _ _ _ _ h := h.congr rfl rfl rfl
  applyCommit c s _ _ _ _ h := fun r => by
    simpa using (h r).lowerHold c.staging.holdPeriods
  rejectCommit _ _ _ _ _ h := h.congr rfl rfl rfl
  settleSource r s _ _ hd h := h.update r (by simp) (by simp) (State.settleSource_src hd) (h r).boundaryCtl
  snapshotDone _ _ _ h := h.congr rfl rfl rfl
  speedStage _ _ _ h := h.congr (by simp) (by simp) (by simp)
  samplePin _ _ _ h := h.congr (by simp) (by simp) (by simp)
  modeStage _ _ _ h := h.congr (by simp) (by simp) (by simp)
  seqStage _ _ _ h := h.congr (by simp) (by simp) (by simp)
  splitStage _ _ _ h := h.congr (by simp) (by simp) (by simp)
  publishStage _ _ _ h := h.congr (by simp) (by simp) (by simp)
  pulse _ _ _ h := h.congr rfl rfl rfl
  sampleDiv _ _ h := h.congr rfl rfl rfl
  tmr _ _ h := h.congr rfl rfl rfl

/-- Settles O57: each operation that touches a source record keeps its notes, and the others leave the records. -/
theorem stepKeepsTheSourceNotes : Obligations.StepKeepsTheSourceNotes := fun _ _ h he => sourcesOk_kept.step h he

end Sys2Proof.Machine
end

section
/-! SUPPORT. What every operation keeps of the notice sets, the claim and the port buffers (R162, R164, R173, R174). -/

namespace Sys2Proof.Machine

/-- A run of raisings keeps the repeat set within the raw set. -/
theorem Notices.raise_foldl_contained (l : List NoticeKind) {n : Notices} (h : n.Contained) :
    (l.foldl (fun n k => n.raise k) n).Contained := by
  induction l generalizing n with
  | nil => exact h
  | cons k l ih => exact ih (Notices.raise_contained k n h)

theorem notices_reset_contained : Notices.reset.Contained := by
  unfold Notices.Contained
  decide

/-- What is asked of the ports speaks of the ports, the notice sets, RST_N and the claim alone. -/
theorem State.PortsOk.congr {s t : State} (h : s.PortsOk) (hp : t.ports = s.ports) (hn : t.ntc = s.ntc) (hr : t.rstN = s.rstN)
    (hc : t.cal.claim = s.cal.claim) : t.PortsOk := by
  obtain ⟨hcontained, hdisabled, hreset, hholder, hbuffers⟩ := h
  constructor
  · rwa [hn]
  · rwa [hn, hp]
  · rwa [hn, hr, hc]
  · rwa [hp, hc]
  · rwa [hp]

/-- Outside reset a change that raises broadcast kinds and gives the claim to no new holder keeps what is asked of the ports. -/
theorem State.PortsOk.raised {s t : State} (h : s.PortsOk) (hr : s.rstN = true) (ht : t.rstN = s.rstN) (hp : t.ports = s.ports)
    {l : List NoticeKind} (hn : Raised l s t)
    (hc : ∀ d, t.cal.claim = some d → ∃ c, s.cal.claim = some c ∧ c.holder = d.holder) : t.PortsOk := by
  obtain ⟨hcontained, hdisabled, hreset, hholder, hbuffers⟩ := h
  constructor
  · intro p
    rw [hn p]
    split
    · exact hcontained p
    · exact Notices.raise_foldl_contained l (hcontained p)
  · intro p hd
    rw [hp] at hd
    rw [hn p, if_pos hd]
    exact hdisabled p hd
  · intro hf
    rw [ht, hr] at hf
    exact absurd hf (by simp)
  · intro d hd
    obtain ⟨c, hc, hholds⟩ := hc d hd
    rw [hp, ← hholds]
    exact hholder c hc
  · rwa [hp]

/-- The same, where the calibration store is left. -/
theorem State.PortsOk.raised_of_cal {s t : State} (h : s.PortsOk) (hr : s.rstN = true) (ht : t.rstN = s.rstN)
    (hp : t.ports = s.ports) {l : List NoticeKind} (hn : Raised l s t) (hc : t.cal = s.cal) : t.PortsOk :=
  h.raised hr ht hp hn fun d hd => ⟨d, by rwa [hc] at hd, rfl⟩

theorem State.PortsOk.settleSource {s : State} (h : s.PortsOk) (hr : s.rstN = true) {r : Role} (hd : s.snapDone.get r = false) :
    (s.settleSource r).PortsOk := by
  refine h.raised hr (by simp) (by simp) (State.settleSource_raised hd) fun d hc => ?_
  rw [State.settleSource_cal hd] at hc
  obtain hcal | ⟨why, hcal⟩ := State.boundaryUpdate_cal r s <;> rw [hcal] at hc
  · exact ⟨d, hc, rfl⟩
  · exact absurd hc (by simp)

/-- A port that frames and PSEL change keeps its place among the others (R174). -/
theorem State.PortsOk.port {s : State} (h : s.PortsOk) {p : PortId} {q : Port} (hq : Port.Reworked s.record (s.ports.get p) q) :
    (s.setPort p q).PortsOk := by
  obtain ⟨hcontained, hdisabled, hreset, hholder, hbuffers⟩ := h
  have same (i : PortId) : ((s.setPort p q).ports.get i).disabled = (s.ports.get i).disabled := by
    rw [State.setPort_ports_get]
    split
    next hi => rw [hi, hq.disabled]
    next => rfl
  refine ⟨hcontained, fun i hd => hdisabled i (same i ▸ hd), hreset, fun c hc => (same c.holder).trans (hholder c hc), fun i => ?_⟩
  rw [State.setPort_ports_get]
  split
  · exact hq.buffers (hbuffers p)
  · exact hbuffers i

theorem State.PortsOk.notices {s : State} (h : s.PortsOk) {p : PortId} {n : Notices} (hr : s.rstN = true) (hp : s.Enabled p)
    (hn : (s.ntc.get p).Contained → n.Contained) : State.PortsOk { s with ntc := s.ntc.set p n } := by
  obtain ⟨hcontained, hdisabled, hreset, hholder, hbuffers⟩ := h
  refine ⟨fun i => ?_, fun i hd => ?_, fun hf => absurd hf (by simp [hr]), hholder, hbuffers⟩
  · dsimp only
    rw [PerPort.get_set]
    split
    · exact hn (hcontained p)
    · exact hcontained i
  · have hi : i ≠ p := by rintro rfl; exact absurd hd (Bool.eq_false_iff.mp hp)
    dsimp only
    rw [PerPort.get_set_ne _ _ hi]
    exact hdisabled i hd

theorem State.PortsOk.claim {s : State} (h : s.PortsOk) {p : PortId} {c : Option Claim} (hr : s.rstN = true) (hp : s.Enabled p)
    (hc : ∀ d, c = some d → d.holder = p) : (s.withClaim c).PortsOk := by
  obtain ⟨hcontained, hdisabled, hreset, hholder, hbuffers⟩ := h
  exact ⟨hcontained, hdisabled, fun hf => absurd hf (by simp [hr]), fun d hd => by rw [hc d hd]; exact hp, hbuffers⟩

/-- RST_N low clears the sets, the claim and the buffers (R192). -/
theorem State.assertReset_portsOk (s : State) : s.assertReset.PortsOk := by
  refine ⟨fun p => ?_, fun p _ => ?_, fun _ => ⟨rfl, rfl⟩, fun c hc => absurd hc (by simp [State.assertReset, Cal.reset]), fun p => ?_⟩
  · rw [show s.assertReset.ntc = .all .reset from rfl, PerPort.get_all]
    exact notices_reset_contained
  · exact PerPort.get_all _ _
  · cases p <;> exact ⟨Nat.zero_le _, Nat.zero_le _⟩

/-- The release finds the sets at their reset values and the claim free, and leaves the buffers. -/
theorem State.PortsOk.release {s : State} (h : s.PortsOk) (hr : s.rstN = false) (straps : PerPort StrapPins) (spd : Bool)
    (low : PerPort Bool) : (s.releaseReset straps spd low).PortsOk := by
  obtain ⟨hcontained, -, hreset, -, hbuffers⟩ := h
  obtain ⟨hntc, hclaim⟩ := hreset hr
  unfold State.releaseReset
  rw [hr]
  refine ⟨hcontained, fun p _ => ?_, fun hf => absurd hf (by simp), fun c hc => ?_, fun p => ?_⟩
  · exact hntc ▸ PerPort.get_all _ _
  · exact absurd (hclaim.symm.trans hc) (by simp)
  · have := hbuffers p
    cases p <;> exact this

theorem portsOk_kept : Kept State.PortsOk where
  queue _ _ h := h.congr rfl rfl rfl rfl
  assertReset s _ := s.assertReset_portsOk
  releaseReset straps spd low _ hr h := h.release hr straps spd low
  port _ _ _ hq h := h.port hq
  notices _ _ _ hr hp hn h := h.notices hr hp hn
  takeReport r w s hr h := h.raised_of_cal hr (by simp) (by simp) (State.takeReport_raised r w s) (by simp)
  takeDeclare r w s hr h := h.raised_of_cal hr rfl rfl (State.takeDeclare_raised r w s) rfl
  claim _ _ _ hr hp hc h := h.claim hr hp hc
  openPeriod _ _ _ _ h := h.congr rfl rfl rfl rfl
  applyCommit c s hr _ hc _ h := h.raised hr (by simp) (by simp) (State.applyCommit_raised c s)
    fun d hd => ⟨c, hc, by cases hd; rfl⟩
  rejectCommit c why s hr hc h := h.raised hr (by simp) (by simp) (State.rejectCommit_raised c why s)
    fun d hd => ⟨c, hc, by cases hd; rfl⟩
  settleSource _ _ hr _ hd h := h.settleSource hr hd
  snapshotDone _ _ _ h := h.congr rfl rfl rfl rfl
  speedStage _ hr hs h := h.raised_of_cal hr (by simp) (by simp) (State.speedStage_raised hr hs) (by simp)
  samplePin _ _ _ h := h.congr (by simp) (by simp) (by simp) (by simp)
  modeStage _ hr hs h := h.raised_of_cal hr (by simp) (by simp) (State.modeStage_raised hr hs) (by simp)
  seqStage _ hr hs h := h.raised_of_cal hr (by simp) (by simp) (State.seqStage_raised hr hs) (by simp)
  splitStage _ hr hs h := h.raised_of_cal hr (by simp) (by simp) (State.splitStage_raised hr hs) (by simp)
  publishStage _ hr hs h := h.raised_of_cal hr (by simp) (by simp) (State.publishStage_raised hr hs) (by simp)
  pulse _ _ _ h := h.congr rfl rfl rfl rfl
  sampleDiv _ _ h := h.congr rfl rfl rfl rfl
  tmr _ _ h := h.congr rfl rfl rfl rfl

/-- Settles O58: each operation keeps what is asked of the ports, the notice sets and the claim. -/
theorem stepKeepsThePorts : Obligations.StepKeepsThePorts := fun _ _ h he => portsOk_kept.step h he

end Sys2Proof.Machine
end

section
/-! SUPPORT. The pairs of mode and sequencer state across MODE's decision and SEQ's stage (chapter 4.1), and the notes on SEQ's counters
(R77, R86). -/

namespace Sys2Proof.Machine

/-! ### MODE's decision and the pairs (R52, R61 to R72) -/

section
variable (i : ModeInput) (k : StopKind) (d : StopDest) (startRun run : Nat)

/-- The decision of a mode that stands with a sequencer state hands SEQ a request that fits both (R81). -/
theorem ModeInput.decision_handed {m : Mode} (h : pairOk m i.seqState = true) :
    handedOk (i.decision k d startRun run m).mode i.seqState i.snap.engineFault (i.decision k d startRun run m).request
      = true := by
  cases m with
  | init =>
    obtain hq : i.seqState = .off := by simpa [pairOk] using h
    unfold ModeInput.decision ModeInput.decideInit
    split_ifs <;> simp [Decision.plain, handedOk, pairOk, Mode.coupled, hq]
  | parked =>
    obtain hq : i.seqState = .off := by simpa [pairOk] using h
    unfold ModeInput.decision ModeInput.decideParked
    split_ifs <;> simp [Decision.plain, handedOk, pairOk, Mode.coupled, hq]
  | electric =>
    obtain hq : i.seqState = .off := by simpa [pairOk] using h
    unfold ModeInput.decision ModeInput.decideElectric
    split_ifs <;> simp [Decision.plain, handedOk, pairOk, Mode.coupled, hq]
  | starting =>
    have hq : i.seqState.starts = true := h
    unfold ModeInput.decision ModeInput.decideStarting
    split_ifs <;> simp [Decision.plain, handedOk, Mode.coupled, hq, h]
  | hybrid =>
    obtain hq : i.seqState = .coupled := by simpa [pairOk] using h
    unfold ModeInput.decision ModeInput.decideCoupled ModeInput.stopRequest
    split_ifs <;> simp_all [Decision.plain, handedOk, pairOk, Mode.coupled, ModeInput.immediateCause]
  | charge =>
    obtain hq : i.seqState = .coupled := by simpa [pairOk] using h
    unfold ModeInput.decision ModeInput.decideCoupled ModeInput.stopRequest
    split_ifs <;> simp_all [Decision.plain, handedOk, pairOk, Mode.coupled, ModeInput.immediateCause]
  | stopping =>
    unfold ModeInput.decision ModeInput.decideStopping
    split_ifs with hsafe hcancel
    · simp only [pairOk, Bool.or_eq_true] at h
      obtain (hq | hq) | hq := h <;> simp_all [Decision.plain, handedOk, pairOk, Mode.coupled]
    · obtain ⟨hq, -⟩ := hcancel
      unfold coupledMode
      split_ifs <;> simp [Decision.plain, handedOk, Mode.coupled, hq]
    · simp [handedOk, Mode.coupled, h]
  | safe =>
    unfold ModeInput.decision ModeInput.decideSafe
    split_ifs with hproof
    · simp [Decision.plain, handedOk, pairOk, Mode.coupled, hproof]
    · simp [Decision.plain, handedOk, Mode.coupled, h]

/-- A stop kind and a stop destination in STOPPING and in no other mode (R51, Note 1). -/
def StopFits (m : Mode) (k : StopKind) (d : StopDest) : Prop :=
  if m = .stopping then k ≠ .none ∧ d ≠ .none else k = .none ∧ d = .none

theorem stopFits_plain {m : Mode} (h : m ≠ .stopping) : StopFits m .none .none := by simp [StopFits, h]

theorem coupledMode_ne_stopping (soc : Int) (c : CalSet) : coupledMode soc c ≠ .stopping := by
  unfold coupledMode
  split_ifs <;> simp

/-- A decision that enters STOPPING names a kind and a destination, one that stays there keeps both, and any other has neither. -/
theorem ModeInput.decision_stopFits {m : Mode} (h : StopFits m k d) :
    StopFits (i.decision k d startRun run m).mode (i.decision k d startRun run m).kind (i.decision k d startRun run m).dest := by
  cases m with
  | init => unfold ModeInput.decision ModeInput.decideInit; split_ifs <;> exact stopFits_plain (by simp [Decision.plain])
  | parked => unfold ModeInput.decision ModeInput.decideParked; split_ifs <;> exact stopFits_plain (by simp [Decision.plain])
  | electric => unfold ModeInput.decision ModeInput.decideElectric; split_ifs <;> exact stopFits_plain (by simp [Decision.plain])
  | starting =>
    unfold ModeInput.decision ModeInput.decideStarting
    split_ifs <;> simp [StopFits, Decision.plain]
  | hybrid =>
    unfold ModeInput.decision ModeInput.decideCoupled
    split_ifs <;> simp [StopFits, Decision.plain]
  | charge =>
    unfold ModeInput.decision ModeInput.decideCoupled
    split_ifs <;> simp [StopFits, Decision.plain]
  | stopping =>
    obtain ⟨hkind, hdest⟩ : k ≠ .none ∧ d ≠ .none := h
    unfold ModeInput.decision ModeInput.decideStopping
    split_ifs
    · exact stopFits_plain (by simp [Decision.plain])
    · exact stopFits_plain (coupledMode_ne_stopping _ _)
    · unfold ModeInput.stopKindNow ModeInput.stopDestNow
      refine ⟨?_, ?_⟩ <;> split_ifs <;> simp [hkind, hdest]
  | safe => unfold ModeInput.decision ModeInput.decideSafe; split_ifs <;> exact stopFits_plain (by simp [Decision.plain])

/-- A start is requested only with the engine available (R63). -/
theorem ModeInput.avail_of_start {m : Mode} (h : (i.decision k d startRun run m).request = some .start) :
    i.avail = .available := by
  cases m with
  | electric =>
    unfold ModeInput.decision ModeInput.decideElectric at h
    split_ifs at h with _ _ hstart
    · simp [Decision.plain] at h
    · simp [Decision.plain] at h
    · simp only [ModeInput.enginePath, Bool.and_eq_true, beq_iff_eq] at hstart
      exact hstart.1.2
    · simp [Decision.plain] at h
  | init => unfold ModeInput.decision ModeInput.decideInit at h; split_ifs at h <;> simp [Decision.plain] at h
  | parked => unfold ModeInput.decision ModeInput.decideParked at h; split_ifs at h <;> simp [Decision.plain] at h
  | starting => unfold ModeInput.decision ModeInput.decideStarting at h; split_ifs at h <;> simp [Decision.plain] at h
  | hybrid =>
    unfold ModeInput.decision ModeInput.decideCoupled ModeInput.stopRequest at h; split_ifs at h <;> simp [Decision.plain] at h
  | charge =>
    unfold ModeInput.decision ModeInput.decideCoupled ModeInput.stopRequest at h; split_ifs at h <;> simp [Decision.plain] at h
  | stopping => unfold ModeInput.decision ModeInput.decideStopping at h; split_ifs at h <;> simp [Decision.plain] at h
  | safe => unfold ModeInput.decision ModeInput.decideSafe at h; split_ifs at h <;> simp [Decision.plain] at h

end

/-! ### SEQ's stage: what it may move to and report (R79 to R93) -/

/-- Where SEQ may stand after a stage that decides by no request, and what it then reports to MODE (R82 to R92). -/
def seqMoves : SeqState → List (SeqState × SeqOutcome)
  | .off => [(.off, .none)]
  | .coupled => [(.coupled, .none)]
  | .unload => [(.unload, .none), (.clutchRelease, .progress)]
  | .crankWait => [(.crankWait, .none), (.speedSync, .progress), (.offWait, .startShutDown)]
  | .speedSync => [(.speedSync, .none), (.clutchWait, .progress), (.offWait, .startShutDown)]
  | .clutchWait => [(.clutchWait, .none), (.coupled, .startComplete), (.clutchRelease, .startShutDown)]
  | .clutchRelease => [(.clutchRelease, .none), (.offWait, .progress), (.clutchRelease, .releaseTimeout)]
  | .offWait => [(.offWait, .none), (.off, .stopComplete)]

/-- A step's new state and its report. -/
def SeqStep.move (o : SeqStep) : SeqState × SeqOutcome := (o.seq.state, o.outcome)

@[simp] theorem SeqStep.quiet_move (q : Seq) : (SeqStep.quiet q).move = (q.state, .none) := rfl
@[simp] theorem Seq.advance_move (c : CalSet) (st : SeqState) (q : Seq) : (q.advance c st).move = (st, .progress) := rfl
@[simp] theorem Seq.failStep_move (c : CalSet) (why : LastReason) (q : Seq) :
    (q.failStep c why).move = (if q.state = .clutchWait then .clutchRelease else .offWait, .startShutDown) := rfl
@[simp] theorem Seq.reachOff_move (c : CalSet) (q : Seq) : (q.reachOff c).move = (.off, .stopComplete) := by
  unfold Seq.reachOff
  dsimp only
  split_ifs <;> rfl

theorem SeqInput.wait_move (i : SeqInput) (q : Seq) : (i.wait q).move ∈ seqMoves q.state := by
  unfold SeqInput.wait
  cases hq : q.state with
  | off => dsimp only; split_ifs <;> simp [SeqStep.move, SeqStep.quiet, seqMoves, hq]
  | coupled => simp [seqMoves, hq]
  | unload => dsimp only; split_ifs <;> simp [seqMoves, hq]
  | crankWait => dsimp only; split_ifs <;> simp [seqMoves, hq]
  | speedSync =>
    dsimp only
    split_ifs
    · simp [seqMoves]
    · simp [seqMoves, hq]
    · simp [seqMoves, SeqStep.move, SeqStep.quiet, hq]
  | clutchWait =>
    dsimp only
    split_ifs
    · simp [seqMoves, SeqStep.move]
    · simp [seqMoves, hq]
    · simp [seqMoves, hq]
  | clutchRelease =>
    dsimp only
    split_ifs
    · simp [seqMoves]
    · simp [seqMoves, SeqStep.move, Seq.lose, hq]
    · simp [seqMoves, hq]
  | offWait =>
    dsimp only
    split_ifs
    · simp [seqMoves]
    · have := (q.lose .offTimeout).reachOff_move i.cal
      simp_all [seqMoves, SeqStep.move]
    · simp [seqMoves, hq]

/-- A FAULT that decides moves SEQ as a wait may move it, but for COUPLED (R93). -/
theorem SeqInput.faulted_move (i : SeqInput) {q : Seq} (hq : q.state ≠ .coupled) : (i.faulted q).move ∈ seqMoves q.state := by
  have hwait := i.wait_move q
  unfold SeqInput.faulted
  cases hst : q.state with
  | coupled => exact absurd hst hq
  | off => rwa [hst] at hwait
  | clutchRelease => rwa [hst] at hwait
  | offWait => rwa [hst] at hwait
  | crankWait => simp [seqMoves, hst]
  | speedSync => simp [seqMoves, hst]
  | clutchWait => simp [seqMoves, hst]
  | unload => simp [seqMoves]

@[simp] theorem Seq.cool_state (q : Seq) : q.cool.state = q.state := by unfold Seq.cool; split <;> rfl
@[simp] theorem Seq.lose_state (why : LastReason) (q : Seq) : (q.lose why).state = q.state := rfl

/-- The sequencer as SEQ's stage takes it: the cool-off counted, and a FAULT's effect on the availability (R87, R93). -/
def SeqInput.prepared (i : SeqInput) (q : Seq) : Seq := if i.faultReaches q then q.cool.lose .fault else q.cool

@[simp] theorem SeqInput.prepared_state (i : SeqInput) (q : Seq) : (i.prepared q).state = q.state := by
  unfold SeqInput.prepared
  split_ifs <;> simp

/-- The notices of a FAULT's effect on the availability (R94). -/
def SeqInput.faultNotices (i : SeqInput) (q : Seq) : List NoticeKind := if i.faultReaches q then unavailableNotice q.cool else []

/-- With a request SEQ obeys it. -/
theorem SeqInput.step_some (i : SeqInput) (r : Request) (q : Seq) : i.step (some r) q =
    { (i.prepared q).obey i.cal r with notices := i.faultNotices q ++ ((i.prepared q).obey i.cal r).notices } := rfl

/-- Without one a FAULT or the wait decides. -/
theorem SeqInput.step_none (i : SeqInput) (q : Seq) : i.step none q =
    { (if i.faultReaches q then i.faulted (i.prepared q) else i.wait (i.prepared q)) with
      notices := i.faultNotices q ++ (if i.faultReaches q then i.faulted (i.prepared q) else i.wait (i.prepared q)).notices } := rfl

theorem SeqInput.step_none_move (i : SeqInput) {q : Seq} (h : i.snap.engineFault = true → q.state ≠ .coupled) :
    (i.step none q).move ∈ seqMoves q.state := by
  rw [SeqInput.step_none]
  have hstate := i.prepared_state q
  change SeqStep.move (if i.faultReaches q then i.faulted (i.prepared q) else i.wait (i.prepared q)) ∈ seqMoves q.state
  rw [← hstate]
  split_ifs with hf
  · simp only [SeqInput.faultReaches, Bool.and_eq_true] at hf
    exact i.faulted_move (by rw [hstate]; exact h hf.1)
  · exact i.wait_move _

/-! ### The settling point and the pairs (R53, R65, R73) -/

/-- The start states stand under STARTING alone. -/
theorem starting_of_pair {m : Mode} {q : SeqState} (h : pairOk m q = true) (hq : q.starts = true) : m = .starting := by
  cases m <;> cases q <;> first | rfl | exact absurd h (by decide) | exact absurd hq (by decide)

/-- The stop states stand under STOPPING and SAFE alone. -/
theorem stopping_or_safe_of_pair {m : Mode} {q : SeqState} (h : pairOk m q = true)
    (hq : q = .unload ∨ q = .clutchRelease ∨ q = .offWait) : m = .stopping ∨ m = .safe := by
  obtain rfl | rfl | rfl := hq <;> cases m <;> first | exact .inl rfl | exact .inr rfl | exact absurd h (by decide)

theorem coupledMode_pair (soc : Int) (c : CalSet) : pairOk (coupledMode soc c) .coupled = true := by
  unfold coupledMode
  split_ifs <;> rfl

/-- A stop destination names a mode that stands with OFF. -/
theorem StopDest.mode_pair {d : StopDest} (h : d ≠ .none) (m : Mode) : pairOk (d.mode m) .off = true := by
  cases d <;> first | rfl | exact absurd rfl h

section
variable {c : CalSet} {soc : Int} {m : ModeCtl}

theorem ModeCtl.settle_startComplete (h : m.mode = .starting) :
    m.settle c soc .startComplete = m.settleTo (coupledMode soc c) := if_pos h

theorem ModeCtl.settle_startShutDown (h : m.mode = .starting) :
    m.settle c soc .startShutDown = { m with mode := .stopping, stopKind := .immediate, stopDest := .electric } := if_pos h

theorem ModeCtl.settle_stopComplete (h : m.mode = .stopping) :
    m.settle c soc .stopComplete = m.settleTo (m.stopDest.mode m.mode) := if_pos h

theorem ModeCtl.settle_stopComplete_of_ne (h : m.mode ≠ .stopping) : m.settle c soc .stopComplete = m := if_neg h

/-- After a move without a request the settled mode and SEQ's state are a pair again. -/
theorem ModeCtl.settle_pair {q : SeqState} (h : pairOk m.mode q = true) (hs : m.mode = .stopping → m.stopDest ≠ .none)
    {x : SeqState × SeqOutcome} (hx : x ∈ seqMoves q) : pairOk (m.settle c soc x.2).mode x.1 = true := by
  cases q with
  | off => obtain rfl := List.mem_singleton.mp hx; exact h
  | coupled => obtain rfl := List.mem_singleton.mp hx; exact h
  | crankWait =>
    have hm := starting_of_pair h rfl
    simp only [seqMoves, List.mem_cons, List.not_mem_nil, or_false] at hx
    obtain rfl | rfl | rfl := hx
    · exact h
    · show pairOk m.mode .speedSync = true
      rw [hm]; rfl
    · rw [ModeCtl.settle_startShutDown hm]; rfl
  | speedSync =>
    have hm := starting_of_pair h rfl
    simp only [seqMoves, List.mem_cons, List.not_mem_nil, or_false] at hx
    obtain rfl | rfl | rfl := hx
    · exact h
    · show pairOk m.mode .clutchWait = true
      rw [hm]; rfl
    · rw [ModeCtl.settle_startShutDown hm]; rfl
  | clutchWait =>
    have hm := starting_of_pair h rfl
    simp only [seqMoves, List.mem_cons, List.not_mem_nil, or_false] at hx
    obtain rfl | rfl | rfl := hx
    · exact h
    · rw [ModeCtl.settle_startComplete hm]; exact coupledMode_pair soc c
    · rw [ModeCtl.settle_startShutDown hm]; rfl
  | unload =>
    simp only [seqMoves, List.mem_cons, List.not_mem_nil, or_false] at hx
    obtain rfl | rfl := hx
    · exact h
    · show pairOk m.mode .clutchRelease = true
      obtain hm | hm := stopping_or_safe_of_pair h (by simp) <;> rw [hm] <;> rfl
  | clutchRelease =>
    simp only [seqMoves, List.mem_cons, List.not_mem_nil, or_false] at hx
    obtain rfl | rfl | rfl := hx
    · exact h
    · show pairOk m.mode .offWait = true
      obtain hm | hm := stopping_or_safe_of_pair h (by simp) <;> rw [hm] <;> rfl
    · rfl
  | offWait =>
    simp only [seqMoves, List.mem_cons, List.not_mem_nil, or_false] at hx
    obtain rfl | rfl := hx
    · exact h
    · obtain hm | hm := stopping_or_safe_of_pair h (by simp)
      · rw [ModeCtl.settle_stopComplete hm]; exact StopDest.mode_pair (hs hm) _
      · rw [ModeCtl.settle_stopComplete_of_ne (by simp [hm]), hm]; rfl

/-- The settling point leaves a stop kind and a destination in STOPPING alone. -/
theorem ModeCtl.settle_stopFits (h : StopFits m.mode m.stopKind m.stopDest) (o : SeqOutcome) :
    StopFits (m.settle c soc o).mode (m.settle c soc o).stopKind (m.settle c soc o).stopDest := by
  cases o with
  | none => exact h
  | progress => exact h
  | releaseTimeout => exact stopFits_plain (m := .safe) (by simp)
  | startComplete =>
    unfold ModeCtl.settle
    dsimp only
    split_ifs
    · exact stopFits_plain (coupledMode_ne_stopping _ _)
    · exact h
  | startShutDown =>
    unfold ModeCtl.settle
    dsimp only
    split_ifs
    · simp [StopFits]
    · exact h
  | stopComplete =>
    unfold ModeCtl.settle
    dsimp only
    split_ifs with hm
    · rw [StopFits, if_pos hm] at h
      refine stopFits_plain ?_
      cases hd : m.stopDest <;> simp_all [ModeCtl.settleTo, StopDest.mode]
    · exact h

end

/-- A request that fits is obeyed to a state that fits the mode, and reported as progress. -/
theorem Seq.obey_pair {m : Mode} {r : Request} {q : Seq} {fault : Bool} (h : handedOk m q.state fault (some r) = true)
    (c : CalSet) : (q.obey c r).outcome = .progress ∧ pairOk m (q.obey c r).seq.state = true := by
  cases r with
  | start =>
    obtain ⟨rfl, hq⟩ : m = .starting ∧ q.state = .off := by simpa [handedOk] using h
    simp [Seq.obey, hq, Seq.advance, pairOk]
  | abandon =>
    obtain ⟨hm, hq⟩ : (m = .safe ∨ m = .stopping) ∧ q.state.starts = true := by simpa [handedOk] using h
    cases hst : q.state <;> rw [hst] at hq <;> first | exact absurd hq (by decide) | skip
    all_goals obtain rfl | rfl := hm <;> simp [Seq.obey, hst, Seq.advance, pairOk]
  | stopUnload =>
    obtain ⟨rfl | rfl, hq⟩ : (m = .safe ∨ m = .stopping) ∧ q.state = .coupled := by simpa [handedOk] using h
    all_goals simp [Seq.obey, hq, Seq.advance, pairOk]
  | stopNoUnload =>
    obtain ⟨rfl | rfl, hq⟩ : (m = .safe ∨ m = .stopping) ∧ q.state = .coupled := by simpa [handedOk] using h
    all_goals simp [Seq.obey, hq, Seq.advance, pairOk]
  | cancel =>
    obtain ⟨rfl | rfl, hq⟩ : (m = .hybrid ∨ m = .charge) ∧ q.state = .unload := by
      simpa [handedOk, Mode.coupled] using h
    all_goals simp [Seq.obey, hq, Seq.advance, pairOk]

/-- SEQ's stage and the settling point make a pair of what MODE handed over (R53, R79). -/
theorem State.seqOut_pair {s : State} (h : handedOk s.modeCtl.mode s.seq.state s.snap.engineFault s.request = true)
    (hs : StopFits s.modeCtl.mode s.modeCtl.stopKind s.modeCtl.stopDest) :
    pairOk (s.modeCtl.settle s.cal.active s.snap.battery.soc s.seqOut.outcome).mode s.seqOut.seq.state = true := by
  unfold State.seqOut
  cases hr : s.request with
  | some r =>
    rw [hr, ← s.seqInput.prepared_state] at h
    obtain ⟨hout, hpair⟩ := Seq.obey_pair h s.cal.active
    rw [SeqInput.step_some]
    dsimp only [State.seqInput] at hout hpair ⊢
    rw [hout]
    exact hpair
  | none =>
    rw [hr] at h
    obtain ⟨hpair, hcoupled⟩ : pairOk s.modeCtl.mode s.seq.state = true
        ∧ (s.modeCtl.mode.coupled = false ∨ s.snap.engineFault = false) := by simpa [handedOk] using h
    refine ModeCtl.settle_pair hpair (fun hm => ?_) (s.seqInput.step_none_move fun hf hq => ?_)
    · rw [StopFits, if_pos hm] at hs
      exact hs.2
    · rw [hq] at hpair
      obtain hc | hc := hcoupled
      · revert hc hpair
        cases s.modeCtl.mode <;> simp [pairOk, Mode.coupled]
      · exact absurd (hc.symm.trans hf) (by decide)

/-! ### The notes on SEQ's counters (R77, R86) -/

/-- What the notes of R77 and R86 say of the sequencer alone, its attempt count within a limit. -/
structure Seq.Noted (limit : Nat) (q : Seq) : Prop where
  timer : q.timer ≠ 0 → q.state.waits = true
  spent : q.spent ≠ 0 → q.state.waits = true
  syncRun : q.syncRun ≠ 0 → q.state = .speedSync
  coolOff : q.coolOff ≠ 0 → q.avail = .cooling
  cooling : q.avail = .cooling → q.state = .off
  attempts : q.attempts ≤ limit

namespace Seq.Noted

variable {q : Seq} {c : CalSet} {limit : Nat}

theorem reset (limit : Nat) : Seq.Noted limit .reset := by constructor <;> simp [Seq.reset]

theorem timeoutRow_waits {st : SeqState} (h : timeoutRow c st ≠ 0) : st.waits = true := by
  cases st <;> first | rfl | exact absurd rfl h

theorem enter (h : q.Noted limit) (ha : q.avail ≠ .cooling) (c : CalSet) (st : SeqState) : (q.enter c st).Noted limit where
  timer := timeoutRow_waits
  spent hn := absurd rfl hn
  syncRun hn := absurd rfl hn
  coolOff := h.coolOff
  cooling hc := absurd hc ha
  attempts := h.attempts

theorem lose (h : q.Noted limit) (ha : q.avail ≠ .cooling) (why : LastReason) : (q.lose why).Noted limit where
  timer := h.timer
  spent := h.spent
  syncRun := h.syncRun
  coolOff hn := absurd (h.coolOff hn) ha
  cooling hc := by simp [Seq.lose] at hc
  attempts := h.attempts

theorem tick (h : q.Noted limit) : q.tick.Noted limit := by
  unfold Seq.tick
  split_ifs with ht
  · exact h
  · exact ⟨fun _ => h.timer ht, fun _ => h.timer ht, h.syncRun, h.coolOff, h.cooling, h.attempts⟩

theorem cool (h : q.Noted limit) : q.cool.Noted limit := by
  unfold Seq.cool
  split_ifs with hc hz
  · exact ⟨h.timer, h.spent, h.syncRun, fun hn => absurd hz hn, (fun hx => nomatch hx), h.attempts⟩
  · exact ⟨h.timer, h.spent, h.syncRun, fun _ => rfl, fun _ => h.cooling hc, h.attempts⟩
  · exact h

theorem cool_avail_ne (h : q.avail ≠ .cooling) : q.cool = q := if_neg h

theorem fail (h : q.Noted (c.retryLimit + 1)) (ha : q.avail ≠ .cooling) (why : LastReason) :
    (q.fail c why).Noted (c.retryLimit + 1) := by
  refine Seq.Noted.enter (q := { q with lastReason := why, attempts := min (c.retryLimit + 1) (q.attempts + 1)
                                        failurePending := true }) ?_ ha c _
  exact ⟨h.timer, h.spent, h.syncRun, h.coolOff, h.cooling, Nat.min_le_left _ _⟩

theorem attemptsZero (h : q.Noted limit) : Seq.Noted limit { q with attempts := 0 } :=
  ⟨h.timer, h.spent, h.syncRun, h.coolOff, h.cooling, Nat.zero_le _⟩

theorem reachOff (h : q.Noted limit) (ha : q.avail ≠ .cooling) (c : CalSet) : (q.reachOff c).seq.Noted limit := by
  have hcool : q.coolOff = 0 := by by_contra hn; exact ha (h.coolOff hn)
  unfold Seq.reachOff
  dsimp only
  split_ifs <;> constructor <;> simp_all [timeoutRow, h.attempts]

/-- What SEQ does without a request keeps the notes, the wait's states being other than OFF while an engine cools off. -/
theorem wait (h : q.Noted (c.retryLimit + 1)) {i : SeqInput} (hc : i.cal = c) : (i.wait q).seq.Noted (c.retryLimit + 1) := by
  subst hc
  by_cases hst : q.state = .off
  · unfold SeqInput.wait
    rw [hst]
    dsimp only
    split_ifs with hr
    · simp only [SeqInput.restores, Bool.and_eq_true, beq_iff_eq] at hr
      obtain ⟨⟨⟨⟨hlost, -⟩, -⟩, -⟩, -⟩ := hr
      refine ⟨hst ▸ h.timer, hst ▸ h.spent, hst ▸ h.syncRun, fun hn => ?_, fun hc => ?_, Nat.zero_le _⟩
      · exact absurd (hlost.symm.trans (h.coolOff hn)) (by decide)
      · simp at hc
    · exact h
  · have ha : q.avail ≠ .cooling := fun hc => hst (h.cooling hc)
    have hta : q.tick.avail ≠ .cooling := by simpa using ha
    unfold SeqInput.wait
    split
    · next hoff => exact absurd hoff hst
    · exact h
    · split_ifs
      · exact h.enter ha _ _
      · exact h
    · split_ifs
      · exact h.enter ha _ _
      · exact h.tick.fail hta _
      · exact h.tick
    · next hs =>
      split_ifs
      · exact h.enter ha _ _
      · exact h.tick.fail hta _
      · have := h.tick
        exact ⟨this.timer, this.spent, fun _ => by simpa [SeqStep.quiet] using hs, this.coolOff, this.cooling, this.attempts⟩
    · split_ifs
      · exact (h.enter ha _ _).attemptsZero
      · exact h.tick.fail hta _
      · exact h.tick
    · split_ifs
      · exact h.enter ha _ _
      · exact h.tick.lose hta _
      · exact h.tick
    · split_ifs
      · exact h.reachOff ha _
      · exact (h.lose ha _).reachOff (by simp [Seq.lose]) _
      · exact h.tick

theorem faulted (h : q.Noted (c.retryLimit + 1)) (ha : q.avail ≠ .cooling) {i : SeqInput} (hc : i.cal = c) :
    (i.faulted q).seq.Noted (c.retryLimit + 1) := by
  have hwait := h.wait hc
  subst hc
  unfold SeqInput.faulted
  split
  · exact h.fail ha _
  · exact h.fail ha _
  · exact h.fail ha _
  · exact h.enter ha _ _
  · exact h.enter ha _ _
  · exact hwait
  · exact hwait
  · exact hwait

theorem obey (h : q.Noted limit) (ha : q.avail ≠ .cooling) (c : CalSet) (r : Request) : (q.obey c r).seq.Noted limit := by
  unfold Seq.obey
  split <;> first | exact h.enter ha _ _ | exact h

theorem prepared (h : q.Noted limit) (i : SeqInput) : (i.prepared q).Noted limit := by
  unfold SeqInput.prepared
  split_ifs with hf
  · refine h.cool.lose (fun hc => ?_) _
    have hoff := h.cool.cooling hc
    simp only [SeqInput.faultReaches, Bool.and_eq_true, bne_iff_ne] at hf
    exact hf.2 (by simpa using hoff)
  · exact h.cool

end Seq.Noted

/-! ### The two invariants across each operation -/

theorem State.seqNotes_iff (s : State) : s.SeqNotes ↔
    s.seq.Noted (s.cal.active.retryLimit + 1) ∧ (s.stage = .seq → s.request = some .start → s.seq.avail = .available) := by
  constructor
  · rintro ⟨htimer, hspent, hrun, hcool, hcooling, hattempts, hstart⟩
    exact ⟨⟨htimer, hspent, hrun, hcool, hcooling, hattempts⟩, hstart⟩
  · rintro ⟨⟨htimer, hspent, hrun, hcool, hcooling, hattempts⟩, hstart⟩
    exact ⟨htimer, hspent, hrun, hcool, hcooling, hattempts, hstart⟩

/-- The pairs and SEQ's notes together, as MODE and SEQ need both. -/
def State.PairedNotes (s : State) : Prop := s.Paired ∧ s.SeqNotes

/-- They speak of the record's, MODE's and SEQ's fields, and of the snapshot's engine where SEQ's stage is due. -/
theorem State.PairedNotes.congr {s t : State} (h : s.PairedNotes) (hrecord : t.record = s.record) (hmode : t.modeCtl = s.modeCtl)
    (hseq : t.seq = s.seq) (hlimit : t.cal.active = s.cal.active)
    (hstage : t.stage = s.stage ∧ t.request = s.request ∧ (s.stage = .seq → t.snap = s.snap) ∨ t.stage ≠ .seq ∧ s.stage ≠ .seq) :
    t.PairedNotes := by
  obtain ⟨⟨hpair, hcommands, hhanded, hsettled, hstop⟩, hnotes⟩ := h
  rw [State.seqNotes_iff] at hnotes
  obtain ⟨hnoted, hstart⟩ := hnotes
  constructor
  · refine ⟨by rwa [hrecord], by rwa [hrecord], fun hs => ?_, fun hs => ?_, by rwa [hmode]⟩
    · obtain ⟨hst, hreq, hsnap⟩ | ⟨hne, -⟩ := hstage
      · rw [hmode, hseq, hreq, hsnap (hst ▸ hs)]
        exact hhanded (hst ▸ hs)
      · exact absurd hs hne
    · rw [hmode, hseq]
      obtain ⟨hst, -⟩ | ⟨-, hne⟩ := hstage
      · exact hsettled (hst ▸ hs)
      · exact hsettled hne
  · rw [State.seqNotes_iff, hseq, hlimit]
    refine ⟨hnoted, fun hs hr => ?_⟩
    obtain ⟨hst, hreq, -⟩ | ⟨hne, -⟩ := hstage
    · exact hstart (hst ▸ hs) (hreq ▸ hr)
    · exact absurd hs hne

theorem State.PairedNotes.reset {s : State} (hr : s.record = .reset) (hm : s.modeCtl = .reset) (hq : s.seq = .reset)
    (hs : s.stage = .idle) : s.PairedNotes := by
  constructor
  · constructor
    · rw [hr]; rfl
    · rw [hr]; exact ⟨rfl, rfl⟩
    · intro h; rw [hs] at h; exact absurd h (by decide)
    · intro _; rw [hm, hq]; rfl
    · rw [hm]; exact ⟨rfl, rfl⟩
  · rw [State.seqNotes_iff, hq, hs]
    exact ⟨.reset _, fun h => absurd h (by decide)⟩

theorem Seq.Noted.adjust {q : Seq} {old : CalSet} (h : q.Noted (old.retryLimit + 1)) (new : CalSet) :
    (q.adjust old new).Noted (new.retryLimit + 1) where
  timer hn := h.timer fun hz => hn (Nat.le_zero.mp (hz ▸ lowerTimer_le _ _ _ _))
  spent := h.spent
  syncRun := h.syncRun
  coolOff hn := h.coolOff fun hz => hn (Nat.le_zero.mp (hz ▸ lowerChanged_le _ _ _))
  cooling := h.cooling
  attempts := by
    show lowerChanged _ _ _ ≤ _
    rw [lowerChanged_eq_min h.attempts]
    exact Nat.min_le_right _ _

/-- SEQ's stage keeps the notes: with the engine cooling off, SEQ stands in OFF and no request is handed over. -/
theorem Seq.Noted.seqOut {s : State} (h : s.seq.Noted (s.cal.active.retryLimit + 1))
    (hhanded : handedOk s.modeCtl.mode s.seq.state s.snap.engineFault s.request = true)
    (hstart : s.request = some .start → s.seq.avail = .available) :
    s.seqOut.seq.Noted (s.cal.active.retryLimit + 1) := by
  have hprepared := h.prepared s.seqInput
  have prepared_ne (ha : s.seq.avail ≠ .cooling) : (s.seqInput.prepared s.seq).avail ≠ .cooling := by
    unfold SeqInput.prepared
    rw [Seq.Noted.cool_avail_ne ha]
    split_ifs
    · simp [Seq.lose]
    · exact ha
  unfold State.seqOut
  cases hr : s.request with
  | some r =>
    rw [SeqInput.step_some]
    refine hprepared.obey (prepared_ne fun hc => ?_) _ r
    rw [hr, h.cooling hc] at hhanded
    cases r <;> simp [handedOk, SeqState.starts] at hhanded
    exact absurd ((hstart hr).symm.trans hc) (by decide)
  | none =>
    rw [SeqInput.step_none]
    split_ifs with hf
    · refine hprepared.faulted (prepared_ne fun hc => ?_) rfl
      simp [SeqInput.faultReaches, h.cooling hc] at hf
    · exact hprepared.wait rfl

/-- MODE's decision hands over a request that fits (R52). -/
theorem State.PairedNotes.modeStage {s : State} (h : s.PairedNotes) (hr : s.rstN = true) (hs : s.stage = .mode) :
    s.modeStage.PairedNotes := by
  obtain ⟨⟨hpair, hcommands, -, hsettled, hstop⟩, hnotes⟩ := h
  rw [State.seqNotes_iff] at hnotes
  obtain ⟨hnoted, -⟩ := hnotes
  have hpaired : pairOk s.modeCtl.mode s.seq.state = true := hsettled (by simp [hs])
  have hstate : (s.seq.cutCoolOff s.snap).state = s.seq.state := by unfold Seq.cutCoolOff; split <;> rfl
  have hcut : (s.seq.cutCoolOff s.snap).Noted (s.cal.active.retryLimit + 1) := by
    unfold Seq.cutCoolOff
    split_ifs
    · exact ⟨hnoted.timer, hnoted.spent, hnoted.syncRun, fun hn => absurd rfl hn, (fun hc => nomatch hc),
        hnoted.attempts⟩
    · exact hnoted
  constructor
  · constructor
    · simpa using hpair
    · simpa using hcommands
    · intro _
      simp only [State.modeStage_eq hr hs, State.broadcastIf_modeCtl, State.broadcastIf_seq, State.broadcastIf_snap,
        State.broadcastIf_request, hstate]
      exact ModeInput.decision_handed s.modeInput _ _ _ _ hpaired
    · intro hne
      simp [State.modeStage_eq hr hs] at hne
    · simp only [State.modeStage_eq hr hs, State.broadcastIf_modeCtl]
      exact ModeInput.decision_stopFits s.modeInput _ _ _ _ hstop
  · rw [State.seqNotes_iff]
    simp only [State.modeStage_eq hr hs, State.broadcastIf_seq, State.broadcastIf_cal, State.broadcastIf_request]
    exact ⟨hcut, fun _ hstart => ModeInput.avail_of_start s.modeInput _ _ _ _ hstart⟩

/-- SEQ's stage and the settling point make a pair of what was handed over (R53, R79). -/
theorem State.PairedNotes.seqStage {s : State} (h : s.PairedNotes) (hr : s.rstN = true) (hs : s.stage = .seq) :
    s.seqStage.PairedNotes := by
  obtain ⟨⟨hpair, hcommands, hhanded, -, hstop⟩, hnotes⟩ := h
  rw [State.seqNotes_iff] at hnotes
  obtain ⟨hnoted, hstart⟩ := hnotes
  have hstage : s.seqStage.stage ≠ .seq := by simp [State.seqStage_eq hr hs]
  constructor
  · refine ⟨by simpa using hpair, by simpa using hcommands, fun h => absurd h hstage, fun _ => ?_, ?_⟩
    · simp only [State.seqStage_eq hr hs, State.broadcastAll_modeCtl, State.broadcastAll_seq]
      exact State.seqOut_pair (hhanded hs) hstop
    · simp only [State.seqStage_eq hr hs, State.broadcastAll_modeCtl]
      exact ModeCtl.settle_stopFits hstop _
  · rw [State.seqNotes_iff]
    refine ⟨?_, fun h => absurd h hstage⟩
    simp only [State.seqStage_eq hr hs, State.broadcastAll_seq, State.broadcastAll_cal]
    exact hnoted.seqOut (hhanded hs) (hstart hs)

theorem pairedNotes_kept : Kept State.PairedNotes where
  queue _ _ h := h.congr rfl rfl rfl rfl (.inl ⟨rfl, rfl, fun _ => rfl⟩)
  assertReset _ _ := .reset rfl rfl rfl rfl
  releaseReset _ _ _ s hr h := by
    unfold State.releaseReset; rw [hr]; exact h.congr rfl rfl rfl rfl (.inl ⟨rfl, rfl, fun _ => rfl⟩)
  port _ _ _ _ h := h.congr rfl rfl rfl rfl (.inl ⟨rfl, rfl, fun _ => rfl⟩)
  notices _ _ _ _ _ _ h := h.congr rfl rfl rfl rfl (.inl ⟨rfl, rfl, fun _ => rfl⟩)
  takeReport _ _ _ _ h := h.congr (by simp) (by simp) (by simp) (by simp) (.inl (by simp))
  takeDeclare _ _ _ _ h := h.congr rfl rfl rfl rfl (.inl (by simp))
  claim _ _ _ _ _ _ h := h.congr rfl rfl rfl rfl (.inl (by simp))
  openPeriod _ _ _ hs h := h.congr rfl rfl rfl rfl (.inr ⟨by simp [State.openPeriod], by simp [hs]⟩)
  applyCommit c s _ hs _ _ h := by
    obtain ⟨⟨hpair, hcommands, -, hsettled, hstop⟩, hnotes⟩ := h
    rw [State.seqNotes_iff] at hnotes
    have hne : (s.applyCommit c).stage ≠ .seq := by simp [hs]
    refine ⟨⟨by simpa using hpair, by simpa using hcommands, fun h => absurd h hne, fun _ => ?_, ?_⟩, ?_⟩
    · simpa using hsettled (by simp [hs])
    · simpa using hstop
    · rw [State.seqNotes_iff]
      exact ⟨hnotes.1.adjust _, fun h => absurd h hne⟩
  rejectCommit _ _ _ _ _ h := h.congr (by simp) (by simp) (by simp) (by simp) (.inl (by simp))
  settleSource _ _ _ hs _ h := h.congr (by simp) (by simp) (by simp) (by simp) (.inl (by simp [hs]))
  snapshotDone _ _ hs h := h.congr rfl rfl rfl rfl (.inr ⟨by simp, by simp [hs]⟩)
  speedStage _ hr hs h := h.congr (by simp) (by simp) (by simp) (by simp)
    (.inr ⟨by simp [State.speedStage_eq hr hs], by simp [hs]⟩)
  samplePin _ _ _ h := h.congr (by simp) (by simp) (by simp) (by simp) (.inl (by simp))
  modeStage _ hr hs h := h.modeStage hr hs
  seqStage _ hr hs h := h.seqStage hr hs
  splitStage _ hr hs h := h.congr (by simp) (by simp) (by simp) (by simp)
    (.inr ⟨by simp [State.splitStage_eq hr hs], by simp [hs]⟩)
  publishStage s hr hs h := by
    obtain ⟨⟨-, -, -, hsettled, hstop⟩, hnotes⟩ := h
    rw [State.seqNotes_iff] at hnotes
    have hpair : pairOk s.modeCtl.mode s.seq.state = true := hsettled (by simp [hs])
    have hne : s.publishStage.stage ≠ .seq := by simp [State.publishStage_eq hr hs]
    refine ⟨⟨?_, ?_, fun h => absurd h hne, fun _ => by simpa using hpair, by simpa using hstop⟩, ?_⟩
    · simpa [State.publishStage_eq hr hs, State.newRecord] using hpair
    · simp [State.publishStage_eq hr hs, State.newRecord]
    · rw [State.seqNotes_iff]
      exact ⟨by simpa using hnotes.1, fun h => absurd h hne⟩
  pulse _ _ _ h := h.congr rfl rfl rfl rfl (.inl ⟨rfl, rfl, fun _ => rfl⟩)
  sampleDiv _ _ h := h.congr rfl rfl rfl rfl (.inl ⟨rfl, rfl, fun _ => rfl⟩)
  tmr _ _ h := h.congr rfl rfl rfl rfl (.inl ⟨rfl, rfl, fun _ => rfl⟩)

/-- Settles O56: MODE hands SEQ a request that fits, SEQ's stage makes a pair of it, and the publication records the pair. -/
theorem stepKeepsThePairs : Obligations.StepKeepsThePairs := fun _ _ hp hn he => pairedNotes_kept.step ⟨hp, hn⟩ he

end Sys2Proof.Machine
end

section
/-! SUPPORT. The tests of a set's validation as the rules word them (R142, R143, R153), and what a set that passes them bounds. -/

namespace Sys2Proof.Machine

/-! ### The six tests (R153) -/

theorem increasing_iff (l : List Int) : increasing l = true ↔ l.Pairwise (· < ·) := by
  induction l with
  | nil => simp [increasing]
  | cons a l ih =>
    cases l with
    | nil => simp [increasing]
    | cons b t =>
      simp only [increasing, Bool.and_eq_true, decide_eq_true_iff, ih]
      constructor
      · rintro ⟨hab, ht⟩
        refine List.pairwise_cons.mpr ⟨fun x hx => ?_, ht⟩
        obtain rfl | hx := List.mem_cons.mp hx
        · exact hab
        · exact hab.trans ((List.pairwise_cons.mp ht).1 x hx)
      · intro h
        obtain ⟨hhead, htail⟩ := List.pairwise_cons.mp h
        exact ⟨hhead b List.mem_cons_self, htail⟩

/-- The values of a table's rows increase strictly exactly when each is below every later one. -/
theorem increasing_map_iff {α : Type} {n : Nat} (v : Vector α n) (f : α → Int) :
    increasing (v.toList.map f) = true ↔ ∀ i j : Fin n, i < j → f v[i] < f v[j] := by
  rw [increasing_iff, List.pairwise_iff_getElem]
  constructor
  · intro h i j hij
    simpa using h i j (by simp) (by simp) hij
  · intro h i j hi hj hij
    simpa using h ⟨i, by simpa using hi⟩ ⟨j, by simpa using hj⟩ hij

/-- A test on every row of a table. -/
theorem all_toList_iff {α : Type} {n : Nat} (v : Vector α n) (f : α → Bool) :
    v.toList.all f = true ↔ ∀ i : Fin n, f v[i] = true := by
  rw [List.all_eq_true, List.forall_mem_iff_getElem]
  constructor
  · intro h i
    simpa using h i (by simp)
  · intro h i hi
    simpa using h ⟨i, by simpa using hi⟩

theorem inSpan_iff (lo hi x : Int) : inSpan lo hi x = true ↔ Between lo hi x := by simp [inSpan, Between]

theorem CalSet.orderT0_iff (c : CalSet) : c.orderT0 = true ↔ ∀ i j : Fin 12, i < j → c.line[i].x < c.line[j].x :=
  increasing_map_iff c.line Row.x

theorem CalSet.rangeT0_iff (c : CalSet) :
    c.rangeT0 = true ↔ ∀ i : Fin 12, Between 0 9000 c.line[i].x ∧ Between 0 1000 c.line[i].y := by
  simp only [CalSet.rangeT0, all_toList_iff, Bool.and_eq_true, inSpan_iff]

theorem CalSet.orderT1_iff (c : CalSet) : c.orderT1 = true ↔ ∀ i j : Fin 6, i < j → c.offset[i].x < c.offset[j].x :=
  increasing_map_iff c.offset Row.x

theorem CalSet.rangeT1_iff (c : CalSet) :
    c.rangeT1 = true ↔ ∀ i : Fin 6, Between 0 1000 c.offset[i].x ∧ Between (-200) 200 c.offset[i].y := by
  simp only [CalSet.rangeT1, all_toList_iff, Bool.and_eq_true, inSpan_iff]

/-- The rows of table 2 whose values are a range, with its two ends (R143). -/
def spanRows : List (Fin 27 × Int × Int) :=
  [(0, 0, 1000), (1, 0, 1000), (2, 0, 1000), (3, 0, 1000), (4, 0, 1000), (5, 1000, 9000), (6, 0, 2000), (7, 100, 1000),
   (8, 1, 500), (9, 0, 1000), (10, 1, 3000), (11, 200, 1500), (12, 700, 1000), (13, 1, 20), (14, 0, 3), (15, 20, 500),
   (16, 20, 500), (17, 20, 500), (18, 1, 50), (19, 10, 500), (20, 10, 1000), (21, 20, 1000), (25, 1, 1000), (26, 1, 100)]

/-- The rows of table 2 in their ranges and lists (R143). -/
structure CalSet.ThrOk (c : CalSet) : Prop where
  spans : ∀ e ∈ spanRows, Between e.2.1 e.2.2 c.thr[e.1]
  window : c.thr[22] ∈ ([1, 2, 4, 8] : List Int)
  teeth : c.thr[23] ∈ ([30, 60, 120] : List Int)
  options : c.thr[24] ∈ ([0, 1, 2, 3] : List Int)

theorem CalSet.thrOk_iff (c : CalSet) : c.ThrOk ↔ (∀ e ∈ spanRows, Between e.2.1 e.2.2 c.thr[e.1])
    ∧ c.thr[22] ∈ ([1, 2, 4, 8] : List Int) ∧ c.thr[23] ∈ ([30, 60, 120] : List Int)
    ∧ c.thr[24] ∈ ([0, 1, 2, 3] : List Int) :=
  ⟨fun h => ⟨h.spans, h.window, h.teeth, h.options⟩, fun ⟨h, hw, ht, ho⟩ => ⟨h, hw, ht, ho⟩⟩

/-- A test that pairs a list with the rows of a table. -/
theorem all_zipWith_toList_iff {α β : Type} {n : Nat} (l : List β) (hl : l.length = n) (v : Vector α n) (f : β → α → Bool) :
    (List.zipWith f l v.toList).all id = true ↔ ∀ i : Fin n, f (l[i]'(by omega)) v[i] = true := by
  have entry (i : Nat) (hi : i < n) (h : i < (List.zipWith f l v.toList).length) :
      (List.zipWith f l v.toList)[i] = f (l[i]'(by omega)) v[i] := by rw [List.getElem_zipWith, Vector.getElem_toList]
  rw [List.all_eq_true, List.forall_mem_iff_getElem]
  constructor
  · intro h i
    have := h i (by simp [hl])
    rwa [entry i i.isLt] at this
  · intro h i hi
    have hn : i < n := by simpa [hl] using hi
    rw [entry i hn]
    exact h ⟨i, hn⟩

theorem thrRanges_length : thrRanges.length = 27 := rfl

/-- The list of R143 gives each row of `spanRows` its range. -/
theorem thrRanges_of_spanRows : ∀ e ∈ spanRows, thrRanges[e.1]'(by rw [thrRanges_length]; exact e.1.isLt) = .span e.2.1 e.2.2 := by decide

/-- Every row but the three that have lists is among `spanRows`. -/
theorem spanRows_cover : ∀ i : Fin 27, (∃ e ∈ spanRows, e.1 = i) ∨ i = 22 ∨ i = 23 ∨ i = 24 := by decide

theorem CalSet.rangeT2_iff (c : CalSet) : c.rangeT2 = true ↔ c.ThrOk := by
  refine (all_zipWith_toList_iff thrRanges thrRanges_length c.thr (fun g x => RowRange.admits x g)).trans ⟨fun h => ?_, fun h i => ?_⟩
  · refine ⟨fun e he => ?_, ?_, ?_, ?_⟩
    · have hrow := h e.1
      rwa [thrRanges_of_spanRows e he, RowRange.admits, inSpan_iff] at hrow
    · simpa [thrRanges, RowRange.admits] using h 22
    · simpa [thrRanges, RowRange.admits] using h 23
    · simpa [thrRanges, RowRange.admits] using h 24
  · obtain ⟨hspans, hwindow, hteeth, hoptions⟩ := h
    obtain ⟨e, he, rfl⟩ | rfl | rfl | rfl := spanRows_cover i
    · rw [thrRanges_of_spanRows e he, RowRange.admits, inSpan_iff]
      exact hspans e he
    · simpa [thrRanges, RowRange.admits] using hwindow
    · simpa [thrRanges, RowRange.admits] using hteeth
    · simpa [thrRanges, RowRange.admits] using hoptions

theorem CalSet.orderings_iff (c : CalSet) : c.orderings = true ↔
    c.thr[0] < c.thr[1] ∧ c.thr[1] < c.thr[4] ∧ c.thr[1] < c.thr[2] ∧ c.thr[2] < c.thr[3] ∧ c.thr[3] ≤ c.thr[4]
      ∧ c.thr[9] < c.thr[7] := by
  simp only [CalSet.orderings, Bool.and_eq_true, decide_eq_true_iff, and_assoc]
  rfl

section
variable {c : CalSet}

theorem CalSet.validate_of_not_orderT0 (h : ¬ c.orderT0 = true) : c.validate = .orderT0 := by simp [CalSet.validate, h]

theorem CalSet.validate_of_not_rangeT0 (h0 : c.orderT0 = true) (h : ¬ c.rangeT0 = true) : c.validate = .rangeT0 := by
  simp [CalSet.validate, h0, h]

theorem CalSet.validate_of_not_orderT1 (h0 : c.orderT0 = true) (h1 : c.rangeT0 = true) (h : ¬ c.orderT1 = true) :
    c.validate = .orderT1 := by simp [CalSet.validate, h0, h1, h]

theorem CalSet.validate_of_not_rangeT1 (h0 : c.orderT0 = true) (h1 : c.rangeT0 = true) (h2 : c.orderT1 = true)
    (h : ¬ c.rangeT1 = true) : c.validate = .rangeT1 := by simp [CalSet.validate, h0, h1, h2, h]

theorem CalSet.validate_of_not_rangeT2 (h0 : c.orderT0 = true) (h1 : c.rangeT0 = true) (h2 : c.orderT1 = true)
    (h3 : c.rangeT1 = true) (h : ¬ c.rangeT2 = true) : c.validate = .rangeT2 := by simp [CalSet.validate, h0, h1, h2, h3, h]

theorem CalSet.validate_of_not_orderings (h0 : c.orderT0 = true) (h1 : c.rangeT0 = true) (h2 : c.orderT1 = true)
    (h3 : c.rangeT1 = true) (h4 : c.rangeT2 = true) (h : ¬ c.orderings = true) : c.validate = .thresholds := by
  simp [CalSet.validate, h0, h1, h2, h3, h4, h]

theorem CalSet.validate_eq_none_iff : c.validate = .none ↔ c.orderT0 = true ∧ c.rangeT0 = true ∧ c.orderT1 = true
    ∧ c.rangeT1 = true ∧ c.rangeT2 = true ∧ c.orderings = true := by
  unfold CalSet.validate
  split_ifs <;> simp_all

end

/-- Settles O51: each of the six tests is the rule's wording of it, and the first that fails is the one that is named. -/
theorem validationNamesTheFirstFailure : Obligations.ValidationNamesTheFirstFailure := by
  refine ⟨by decide, fun c => ?_⟩
  have hrange2 := c.rangeT2_iff.trans c.thrOk_iff
  intro order0 range0 order1 range1 t range2 orderings
  rw [show order0 ↔ _ from c.orderT0_iff.symm, show range0 ↔ _ from c.rangeT0_iff.symm,
    show order1 ↔ _ from c.orderT1_iff.symm, show range1 ↔ _ from c.rangeT1_iff.symm]
  refine ⟨CalSet.validate_of_not_orderT0, CalSet.validate_of_not_rangeT0, CalSet.validate_of_not_orderT1,
    CalSet.validate_of_not_rangeT1, fun h0 h1 h2 h3 h => ?_, fun h0 h1 h2 h3 h4 h => ?_, fun h0 h1 h2 h3 h4 h => ?_⟩
  · exact CalSet.validate_of_not_rangeT2 h0 h1 h2 h3 (mt hrange2.mp h)
  · exact CalSet.validate_of_not_orderings h0 h1 h2 h3 (hrange2.mpr h4) (mt c.orderings_iff.mp h)
  · exact CalSet.validate_eq_none_iff.mpr ⟨h0, h1, h2, h3, hrange2.mpr h4, c.orderings_iff.mpr h⟩

end Sys2Proof.Machine
end

section
/-! SUPPORT. The arithmetic of SPLIT: the motor's bounds, the motor power term and the record's ranges (R104, R108, R116 to R122). -/

namespace Sys2Proof.Machine

/-! ### Rows of a set that passes its validation (R143, R153) -/

section
variable {c : CalSet} (h : c.validate = .none)
include h

theorem CalSet.thrOk_of_valid : c.ThrOk := by
  obtain ⟨-, -, -, -, hrange, -⟩ := CalSet.validate_eq_none_iff.mp h
  exact c.rangeT2_iff.mp hrange

theorem CalSet.nFloor_between : Between 200 1500 c.nFloor := (CalSet.thrOk_of_valid h).spans (11, 200, 1500) (by decide)

theorem CalSet.eta_between : Between 700 1000 c.eta := (CalSet.thrOk_of_valid h).spans (12, 700, 1000) (by decide)

theorem CalSet.coolOff_le : c.coolOff ≤ 1000 := by
  have : Between 10 1000 c.thr[20] := (CalSet.thrOk_of_valid h).spans (20, 10, 1000) (by decide)
  unfold Between at this
  unfold CalSet.coolOff
  omega

/-- Each timeout row is at least 10 and at most 1000 (R80, R143). -/
theorem timeoutRow_between {st : SeqState} (hst : st.waits = true) : 10 ≤ timeoutRow c st ∧ timeoutRow c st ≤ 1000 := by
  have hcrank : Between 20 500 c.thr[15] := (CalSet.thrOk_of_valid h).spans (15, 20, 500) (by decide)
  have hsync : Between 20 500 c.thr[16] := (CalSet.thrOk_of_valid h).spans (16, 20, 500) (by decide)
  have hclutch : Between 10 500 c.thr[19] := (CalSet.thrOk_of_valid h).spans (19, 10, 500) (by decide)
  have hoff : Between 20 1000 c.thr[21] := (CalSet.thrOk_of_valid h).spans (21, 20, 1000) (by decide)
  unfold Between at hcrank hsync hclutch hoff
  cases st with
  | crankWait => simp only [timeoutRow, CalSet.crankTimeout]; omega
  | speedSync => simp only [timeoutRow, CalSet.syncTimeout]; omega
  | clutchWait => simp only [timeoutRow, CalSet.clutchTimeout]; omega
  | clutchRelease => simp only [timeoutRow, CalSet.clutchTimeout]; omega
  | offWait => simp only [timeoutRow, CalSet.offTimeout]; omega
  | off => cases hst
  | coupled => cases hst
  | unload => cases hst

theorem timeoutRow_le (st : SeqState) : timeoutRow c st ≤ 1000 := by
  cases hst : st.waits with
  | true => exact (timeoutRow_between h hst).2
  | false => cases st <;> first | exact Nat.zero_le _ | cases hst

end

/-! ### SPLIT's stage on quantities in their ranges -/

theorem ceilDiv_nonneg {a b : Int} (hb : 0 < b) (ha : 0 ≤ a) : 0 ≤ ceilDiv a b := by
  have := Int.ediv_le_of_le_mul (a := -a) (b := 0) hb (by omega)
  unfold ceilDiv
  omega

/-- What SPLIT's stage reads, in the ranges that the part keeps (R4, R5, R24, R37, R102, R143). -/
structure SplitInput.InRange (i : SplitInput) : Prop where
  snap : ValuesInRange i.snap.vehicle i.snap.engine i.snap.motor.motoring i.snap.motor.generating i.snap.battery
    i.snap.motor.speed
  nSel : Between 0 9000 i.nSel
  nEff : 0 < i.nEff ∧ i.nSel ≤ i.nEff
  eta : Between 700 1000 i.cal.eta
  decayRamp : 0 ≤ i.decayRamp
  prevTd : Between (-1000) 1000 i.prev.prevTd

namespace SplitInput

variable {i : SplitInput} (h : i.InRange)
include h

theorem td_between : Between (-1000) 1000 i.td := by
  have hdemand := h.snap.demand
  have hdecay := decay_between h.decayRamp i.prev.prevTd
  have hprev := h.prevTd
  unfold Between at *
  unfold SplitInput.td
  cases i.mode <;> dsimp only <;> omega

omit h in
theorem ad_nonneg : 0 ≤ i.ad := le_max_left _ _

theorem ac_nonneg : 0 ≤ i.ac := by
  have hpchg := h.snap.pchg
  have hpaux := h.snap.paux
  unfold Between at hpchg hpaux
  unfold SplitInput.ac
  omega

theorem eta_pos : 0 < i.cal.eta := lt_of_lt_of_le (by decide) h.eta.1

theorem tDis_nonneg : 0 ≤ i.tDis :=
  Int.ediv_nonneg (Int.mul_nonneg (Int.mul_nonneg ad_nonneg (eta_pos h).le) (by decide))
    (Int.mul_nonneg (by decide) h.nEff.1.le)

theorem tChg_nonneg : 0 ≤ i.tChg :=
  Int.ediv_nonneg (Int.mul_nonneg (Int.mul_nonneg (ac_nonneg h) (by decide)) (by decide))
    (Int.mul_nonneg (Int.mul_nonneg (by decide) (eta_pos h).le) h.nEff.1.le)

theorem tmHi_between : Between 0 1000 i.tmHi := by
  have hmotoring := h.snap.motoring
  have hdis := tDis_nonneg h
  unfold Between at *
  unfold SplitInput.tmHi
  omega

theorem tmLo_between : Between (-1000) 0 i.tmLo := by
  have hgenerating := h.snap.generating
  have hchg := tChg_nonneg h
  have hcap := h.snap.regenCap
  unfold Between at *
  unfold SplitInput.tmLo
  omega

theorem teHi_between : Between 0 1000 i.teHi := by
  have hmax := h.snap.maxTorque
  unfold Between at *
  unfold SplitInput.teHi
  split_ifs <;> omega

theorem teLo_between : Between (-200) 0 i.teLo := by
  have hdrag := h.snap.drag
  unfold Between at *
  unfold SplitInput.teLo
  split_ifs <;> omega

theorem te_between : Between i.teLo i.teHi i.te := by
  have hhi := teHi_between h
  have hlo := teLo_between h
  unfold Between at *
  unfold SplitInput.te
  split_ifs
  · omega
  · exact grant_between (by omega) _ _ _

theorem tm_between : Between i.tmLo i.tmHi i.tm := by
  have hhi := tmHi_between h
  have hlo := tmLo_between h
  unfold Between at *
  unfold SplitInput.tm
  split_ifs
  · omega
  · exact grant_between (by omega) _ _ _

/-- A motoring grant takes no more than the discharge that was available to it (R108, R121). -/
theorem motorTerm_of_nonneg (ht : 0 ≤ i.tm) : 0 ≤ i.motorTerm ∧ i.motorTerm ≤ i.ad := by
  have hden : 0 < 9549 * i.cal.eta := Int.mul_pos (by decide) (eta_pos h)
  have hnum : 0 ≤ i.tm * i.nSel * 10 * 1000 :=
    Int.mul_nonneg (Int.mul_nonneg (Int.mul_nonneg ht h.nSel.1) (by decide)) (by decide)
  have hdis : i.tm ≤ i.tDis := (tm_between h).2.trans ((min_le_left _ _).trans (min_le_right _ _))
  have hpower : i.tm * (10 * 1000 * i.nEff) ≤ i.ad * i.cal.eta * 9549 :=
    (Int.le_ediv_iff_mul_le (Int.mul_pos (by decide) h.nEff.1)).mp hdis
  have hspeed : i.tm * i.nSel ≤ i.tm * i.nEff := Int.mul_le_mul_of_nonneg_left h.nEff.2 ht
  unfold SplitInput.motorTerm
  rw [if_pos ht]
  constructor
  · exact ceilDiv_nonneg hden hnum
  · rw [ceilDiv_le_iff hden]
    calc i.tm * i.nSel * 10 * 1000 = i.tm * i.nSel * 10000 := by ring
      _ ≤ i.tm * i.nEff * 10000 := Int.mul_le_mul_of_nonneg_right hspeed (by decide)
      _ = i.tm * (10 * 1000 * i.nEff) := by ring
      _ ≤ i.ad * i.cal.eta * 9549 := hpower
      _ = i.ad * (9549 * i.cal.eta) := by ring

/-- A generating grant returns no more than the charge that could be taken (R108, R121). -/
theorem motorTerm_of_neg (ht : i.tm < 0) : -i.ac ≤ i.motorTerm ∧ i.motorTerm ≤ 0 := by
  have hnum : 0 ≤ -i.tm * i.nSel * 10 * i.cal.eta :=
    Int.mul_nonneg (Int.mul_nonneg (Int.mul_nonneg (by omega) h.nSel.1) (by decide)) (eta_pos h).le
  have hchg : -i.tm ≤ i.tChg := by
    have hlo := (tm_between h).1
    unfold SplitInput.tmLo at hlo
    omega
  have hpower : -i.tm * (10 * i.cal.eta * i.nEff) ≤ i.ac * 1000 * 9549 :=
    (Int.le_ediv_iff_mul_le (Int.mul_pos (Int.mul_pos (by decide) (eta_pos h)) h.nEff.1)).mp hchg
  have hspeed : -i.tm * i.nSel ≤ -i.tm * i.nEff := Int.mul_le_mul_of_nonneg_left h.nEff.2 (by omega)
  have hterm : 0 ≤ ceilDiv (-i.tm * i.nSel * 10 * i.cal.eta) (9549 * 1000) := ceilDiv_nonneg (by decide) hnum
  have hbound : ceilDiv (-i.tm * i.nSel * 10 * i.cal.eta) (9549 * 1000) ≤ i.ac := by
    rw [ceilDiv_le_iff (by decide)]
    calc -i.tm * i.nSel * 10 * i.cal.eta = -i.tm * i.nSel * (10 * i.cal.eta) := by ring
      _ ≤ -i.tm * i.nEff * (10 * i.cal.eta) :=
        Int.mul_le_mul_of_nonneg_right hspeed (Int.mul_nonneg (by decide) (eta_pos h).le)
      _ = -i.tm * (10 * i.cal.eta * i.nEff) := by ring
      _ ≤ i.ac * 1000 * 9549 := hpower
      _ = i.ac * (9549 * 1000) := by ring
  unfold SplitInput.motorTerm
  rw [if_neg (by omega)]
  omega

/-- The motor power term keeps the prediction within the battery's limits (R122). -/
theorem motorTerm_within : -i.snap.battery.pchg ≤ i.motorTerm + i.snap.battery.paux
    ∧ i.motorTerm + i.snap.battery.paux ≤ max i.snap.battery.pdis i.snap.battery.paux := by
  have hpchg := h.snap.pchg
  have hpaux := h.snap.paux
  unfold Between at hpchg hpaux
  obtain ht | ht := le_or_gt 0 i.tm
  · have := motorTerm_of_nonneg h ht
    unfold SplitInput.ad at this
    omega
  · have := motorTerm_of_neg h ht
    unfold SplitInput.ac at this
    omega

theorem motorTerm_between : Between (-3200) 3000 i.motorTerm := by
  have hwithin := motorTerm_within h
  have hpdis := h.snap.pdis
  have hpchg := h.snap.pchg
  have hpaux := h.snap.paux
  unfold Between at *
  omega

/-- The saturation of the prediction changes nothing (R122). -/
theorem pBatt_eq : i.pBatt = i.motorTerm + i.snap.battery.paux := by
  have hwithin := motorTerm_within h
  have hpdis := h.snap.pdis
  have hpchg := h.snap.pchg
  have hpaux := h.snap.paux
  unfold Between at *
  exact clamp_of_between (by omega) (by omega)

/-- What SPLIT hands over is in the ranges of R104, with the bounds of R116 and R118 and the sum of R120. -/
theorem out_sound : i.out.Sound := by
  have htd := td_between h
  have htmHi := tmHi_between h
  have htmLo := tmLo_between h
  have hteHi := teHi_between h
  have hteLo := teLo_between h
  have hte := te_between h
  have htm := tm_between h
  have hrem : i.remainder = i.td - i.te - i.tm := rfl
  refine ⟨htd, htmHi, htmLo, hteHi, hteLo, hte, htm, ?_, ?_, ?_, ?_, clamp_between (by decide) _, motorTerm_between h, h.nSel⟩ <;>
    simp only [SplitInput.out] <;> unfold Between at * <;> omega

end SplitInput

end Sys2Proof.Machine
end

section
/-! SUPPORT. What every operation keeps of the ranges of the part's quantities and counters. -/

namespace Sys2Proof.Machine

/-! ### Reported and declared values (R4, R5, R24, R29) -/

theorem reportField_between {clipLo clipHi : Int} (h : clipLo ≤ clipHi) (lo hi : Int) (w : Word) :
    Between clipLo clipHi (reportField lo hi clipLo clipHi w).1 := clamp_between h _

theorem wireField_between {lo hi : Int} (h : lo ≤ hi) (w : Word) : Between lo hi (wireField lo hi w).1 := clamp_between h _

/-- A value within a range that lies within another. -/
theorem Between.within {lo hi a b x : Int} (h : Between a b x) (hlo : lo ≤ a) (hhi : b ≤ hi) : Between lo hi x :=
  ⟨hlo.trans h.1, h.2.trans hhi⟩

/-- The held values are in the ranges that clamping and clipping leave. -/
def Held.InRange (h : Held) : Prop :=
  ValuesInRange h.vehicle h.engine h.motor.motoring h.motor.generating h.battery (some h.motor.speed)

/-- The values of a snapshot are in the ranges that clamping and clipping leave. -/
def Snapshot.InRange (sn : Snapshot) : Prop :=
  ValuesInRange sn.vehicle sn.engine sn.motor.motoring sn.motor.generating sn.battery sn.motor.speed

theorem Held.InRange.reset : Held.reset.InRange := by constructor <;> simp [Held.reset, Between]

theorem Snapshot.InRange.reset : Snapshot.reset.InRange := by
  constructor <;> simp [Snapshot.reset, MotorSnap.substitute, EngineValues.substitute, Between]

theorem EnvelopesInRange.reset : EnvelopesInRange (.all .reset) := by
  constructor <;> simp [PerRole.all, Envelope.reset, Between]

section
variable {env : PerRole Envelope} (he : EnvelopesInRange env)
include he

/-- A report against its live envelope leaves the held values in their ranges (R4, R5). -/
theorem storeReport_inRange {h : Held} (hh : h.InRange) (r : Role) (w : Words) :
    (storeReport r (env.get r) w h).held.InRange := by
  cases r with
  | vehicle =>
    obtain ⟨he0, he1, -⟩ := he.vehicle
    unfold Between at he0 he1
    exact { hh with
      demand := (reportField_between (by simp only [PerRole.get]; omega) _ _ _).within (by simp only [PerRole.get]; omega) he0.2
      regenCap := wireField_between (by decide) _ }
  | engine =>
    obtain ⟨he0, he1, -⟩ := he.engine
    exact { hh with
      maxTorque := (reportField_between he0.1 _ _ _).within (by decide) he0.2
      drag := (reportField_between he1.1 _ _ _).within (by decide) he1.2
      engineSpeed := wireField_between (by decide) _ }
  | motor =>
    obtain ⟨he0, he1, -⟩ := he.motor
    refine { hh with
      motoring := (reportField_between he0.1 _ _ _).within (by decide) he0.2
      generating := (reportField_between he1.1 _ _ _).within (by decide) he1.2
      motorSpeed := fun n hn => ?_ }
    cases hn
    exact wireField_between (by decide) _
  | battery =>
    obtain ⟨he0, he1, he2⟩ := he.battery
    exact { hh with
      soc := wireField_between (by decide) _
      pdis := (reportField_between he0.1 _ _ _).within (by decide) he0.2
      pchg := (reportField_between he1.1 _ _ _).within (by decide) he1.2
      paux := (reportField_between he2.1 _ _ _).within (by decide) he2.2 }

/-- The held values stay in their ranges when they are clipped to an envelope (R29). -/
theorem reclip_inRange {h : Held} (hh : h.InRange) (r : Role) : (reclip r (env.get r) h).InRange := by
  cases r with
  | vehicle =>
    obtain ⟨he0, he1, -⟩ := he.vehicle
    unfold Between at he0 he1
    exact { hh with
      demand := Between.within (clamp_between (by simp only [PerRole.get]; omega) _) (by simp only [PerRole.get]; omega) he0.2 }
  | engine =>
    obtain ⟨he0, he1, -⟩ := he.engine
    exact { hh with
      maxTorque := Between.within (clamp_between he0.1 _) (by decide) he0.2
      drag := Between.within (clamp_between he1.1 _) (by decide) he1.2 }
  | motor =>
    obtain ⟨he0, he1, -⟩ := he.motor
    exact { hh with
      motoring := Between.within (clamp_between he0.1 _) (by decide) he0.2
      generating := Between.within (clamp_between he1.1 _) (by decide) he1.2 }
  | battery =>
    obtain ⟨he0, he1, he2⟩ := he.battery
    exact { hh with
      pdis := Between.within (clamp_between he0.1 _) (by decide) he0.2
      pchg := Between.within (clamp_between he1.1 _) (by decide) he1.2
      paux := Between.within (clamp_between he2.1 _) (by decide) he2.2 }

/-- A declared envelope is in the ranges of its role (R24, R27). -/
theorem EnvelopesInRange.declare (r : Role) (w : Words) : EnvelopesInRange (env.set r (declaredEnvelope r w)) := by
  have field (lo hi x : Int) (h : lo ≤ hi) (h0 : 0 ≤ lo) : Between 0 hi (clamp lo hi x) :=
    Between.within (clamp_between h x) h0 (le_refl _)
  cases r with
  | vehicle =>
    exact { he with vehicle := ⟨field _ _ _ (by decide) (by decide), field _ _ _ (by decide) (by decide), field _ _ _ (by decide) (by decide)⟩ }
  | engine =>
    exact { he with engine := ⟨field _ _ _ (by decide) (by decide), field _ _ _ (by decide) (by decide), field _ _ _ (by decide) (by decide)⟩ }
  | motor =>
    exact { he with motor := ⟨field _ _ _ (by decide) (by decide), field _ _ _ (by decide) (by decide), field _ _ _ (by decide) (by decide)⟩ }
  | battery =>
    exact { he with battery := ⟨field _ _ _ (by decide) (by decide), field _ _ _ (by decide) (by decide), field _ _ _ (by decide) (by decide)⟩ }

/-- A copy of one role's envelope from a table in its ranges. -/
theorem EnvelopesInRange.copy {old : PerRole Envelope} (ho : EnvelopesInRange old) (r : Role) :
    EnvelopesInRange (old.set r (env.get r)) := by
  cases r with
  | vehicle => exact { ho with vehicle := he.vehicle }
  | engine => exact { ho with engine := he.engine }
  | motor => exact { ho with motor := he.motor }
  | battery => exact { ho with battery := he.battery }

end

/-! ### The snapshot (R17 to R22) -/

theorem vehicleSnap_inRange {v : VehicleValues} {prevTd ramp : Int} (hd : Between (-1000) 1000 v.demand)
    (hc : Between 0 1000 v.regenCap) (ht : Between (-1000) 1000 prevTd) (hr : 0 ≤ ramp) (st : Freshness) :
    Between (-1000) 1000 (vehicleSnap st v prevTd ramp).demand ∧ Between 0 1000 (vehicleSnap st v prevTd ramp).regenCap := by
  have hdecay := decay_between hr prevTd
  unfold Between at *
  cases st with
  | undeclared => simp only [vehicleSnap, presented]; omega
  | lapsed => simp only [vehicleSnap, presented]; omega
  | fresh => exact ⟨hd, hc⟩
  | aged => exact ⟨hd, hc⟩

/-- A source's part of the snapshot is in the ranges of its held values; what stands in for a lapsed source is too (R18, R19). -/
theorem State.snapPart_inRange {s : State} (hsnap : s.snap.InRange) (hheld : s.heldVals.InRange)
    (htd : Between (-1000) 1000 s.record.td) (hcopy : EnvelopesInRange s.envCopy) (r : Role) : (s.snapPart r).InRange := by
  have hzero (hi : Int) (h : 0 ≤ hi) : Between 0 hi 0 := ⟨le_refl _, h⟩
  cases r with
  | vehicle =>
    obtain ⟨hdemand, hcap⟩ := vehicleSnap_inRange hheld.demand hheld.regenCap htd hcopy.vehicle.2.2.1 s.src.vehicle.state
    exact { hsnap with demand := hdemand, regenCap := hcap }
  | engine =>
    cases hst : s.src.engine.state <;> simp only [State.snapPart, PerRole.get, engineSnap, presented, hst] <;>
    first
    | exact { hsnap with maxTorque := hheld.maxTorque, drag := hheld.drag, engineSpeed := hheld.engineSpeed }
    | exact { hsnap with maxTorque := hzero _ (by decide), drag := hzero _ (by decide), engineSpeed := hzero _ (by decide) }
  | motor =>
    cases hst : s.src.motor.state <;> simp only [State.snapPart, PerRole.get, motorSnap, presented, hst] <;>
    first
    | exact { hsnap with motoring := hheld.motoring, generating := hheld.generating, motorSpeed := hheld.motorSpeed }
    | exact { hsnap with motoring := hzero _ (by decide), generating := hzero _ (by decide), motorSpeed := fun _ hn => nomatch hn }
  | battery =>
    cases hst : s.src.battery.state <;> simp only [State.snapPart, PerRole.get, batterySnap, presented, hst] <;>
    first
    | exact { hsnap with pdis := hheld.pdis, pchg := hheld.pchg, paux := hheld.paux, soc := hheld.soc }
    | exact { hsnap with pdis := hzero _ (by decide), pchg := hzero _ (by decide), paux := hzero _ (by decide), soc := hheld.soc }

/-! ### The speed unit (R37 to R49) -/

/-- The speed unit in the ranges of R37 and R41, with its notes on the runs and the candidates. -/
structure Spd.InRange (c : CalSet) (u : Spd) : Prop where
  nPulse : Between 0 9000 u.nPulse
  nMotorUsed : Between 0 9000 u.nMotorUsed
  nSel : Between 0 9000 u.nSel
  nEff : Between 200 9000 u.nEff ∧ u.nSel ≤ u.nEff
  count : u.count ≤ 255 ∧ u.boundaryCount ≤ 255
  ring : u.ring.length = 8 ∧ ∀ n ∈ u.ring, n ≤ 255
  candidate : u.candidate ≤ 2 ∧ (c.rejectorOn = false → u.candidate = 0)
  plausibility : u.disagree ≤ 100 ∧ u.agree ≤ 100
  otherRun : if u.check = .plausible then u.agree = 0 else u.disagree = 0

namespace Spd.InRange

variable {c : CalSet} {u : Spd}

theorem reset (c : CalSet) (level : Bool) : (Spd.reset level).InRange c := by constructor <;> simp [Spd.reset, Between]

theorem boundary (h : u.InRange c) : u.boundary.InRange c := { h with count := ⟨Nat.zero_le _, h.count.1⟩ }

theorem noCandidates (h : u.InRange c) (d : CalSet) : Spd.InRange d { u with candidate := 0 } :=
  { h with candidate := ⟨Nat.zero_le _, fun _ => rfl⟩ }

theorem edge (h : u.InRange c) (d : CalSet) (rising level : Bool) : (u.edge rising level).InRange d := by
  refine { h with candidate := ⟨Nat.zero_le _, fun _ => rfl⟩, count := ⟨?_, h.count.2⟩ }
  unfold Spd.edge
  dsimp only
  split_ifs
  · exact Nat.min_le_left _ _
  · exact h.count.1

theorem sample (h : u.InRange c) (level : Bool) : (u.sample c level).InRange c := by
  unfold Spd.sample
  split_ifs with hon _ htwo
  · exact h.noCandidates c
  · exact h.edge c _ _
  · exact { h with candidate := ⟨by dsimp only; omega, fun hoff => absurd (hon.symm.trans hoff) (by decide)⟩ }
  · exact h.noCandidates c
  · exact h.edge c _ _

/-- The unit when a set is applied: a rejector turned off leaves no candidate (R43). -/
theorem adjust (h : u.InRange c) (new : CalSet) (pin : Bool) : (u.adjust c new pin).InRange new := by
  unfold Spd.adjust
  split_ifs with hoff
  · exact h.noCandidates new
  · exact h.edge new _ _
  · refine { h with candidate := ⟨h.candidate.1, fun hnew => h.candidate.2 ?_⟩ }
    simpa [hnew] using hoff

theorem judge (h : u.InRange c) (d : Nat) (verdict : Bool) : (u.judge d verdict).1.InRange c := by
  have hother := h.otherRun
  obtain ⟨hdis, hag⟩ := h.plausibility
  unfold Spd.judge
  split <;> rename_i hcheck <;> split_ifs <;>
    refine { h with plausibility := ?_, otherRun := ?_ } <;> simp_all

theorem compare (h : u.InRange c) {n : Option Int} (hn : ∀ x, n = some x → Between 0 9000 x) : (u.compare c n).1.InRange c := by
  unfold Spd.compare
  cases n with
  | some x => exact Spd.InRange.judge (u := { u with nMotorUsed := x, absent := false }) { h with nMotorUsed := hn x rfl } _ _
  | none => exact { h with nMotorUsed := ⟨le_refl 0, Int.natCast_nonneg 9000⟩ }

theorem selected (h : u.InRange c) {n : Option Int} (hn : ∀ x, n = some x → Between 0 9000 x) : Between 0 9000 (u.selected n) := by
  have hpulse := h.nPulse
  unfold Between at *
  unfold Spd.selected
  cases n with
  | some x =>
    have := hn x rfl
    dsimp only
    split <;> omega
  | none => exact hpulse

theorem pulseSpeed_between (w teeth : Nat) (ring : List Nat) : Between 0 9000 (pulseSpeed w teeth ring) := by
  have := Int.natCast_nonneg ((ring.take w).sum * 6000 / (teeth * w))
  unfold Between pulseSpeed
  omega

theorem stage (h : u.InRange c) (hfloor : Between 200 1500 c.nFloor) {n : Option Int}
    (hn : ∀ x, n = some x → Between 0 9000 x) : (u.stage c n).1.InRange c := by
  have hring : Spd.InRange c { u with ring := ringEnter u.boundaryCount u.ring
                                      nPulse := pulseSpeed c.window c.teeth (ringEnter u.boundaryCount u.ring) } :=
    { h with
      nPulse := pulseSpeed_between _ _ _
      ring := by
        refine ⟨by simp [ringEnter, h.ring.1], fun n hmem => ?_⟩
        obtain rfl | hmem := List.mem_cons.mp (List.mem_of_mem_take hmem)
        · exact h.count.2
        · exact h.ring.2 n hmem }
  have hcompare := hring.compare hn
  have hselected := hcompare.selected hn
  unfold Spd.stage
  refine { hcompare with nSel := hselected, nEff := ?_ }
  unfold Between at *
  dsimp only
  omega

end Spd.InRange

/-! ### SEQ (R77) -/

/-- SEQ's timer with the time spent, its sync run and its cool-off counter in their ranges (R77, R80, R83, R87; log 23). -/
structure Seq.InRange (q : Seq) : Prop where
  timer : q.timer + q.spent ≤ 1000
  syncRun : q.syncRun ≤ 50
  coolOff : q.coolOff ≤ 1000

namespace Seq.InRange

variable {q : Seq} {c : CalSet}

theorem reset : Seq.reset.InRange := by constructor <;> decide

theorem adjust (h : q.InRange) (old new : CalSet) : (q.adjust old new).InRange where
  timer := (Nat.add_le_add_right (lowerTimer_le _ _ _ _) _).trans h.timer
  syncRun := h.syncRun
  coolOff := (lowerChanged_le _ _ _).trans h.coolOff

theorem cutCoolOff (h : q.InRange) (sn : Snapshot) : (q.cutCoolOff sn).InRange := by
  unfold Seq.cutCoolOff
  split_ifs
  · exact { h with coolOff := Nat.zero_le _ }
  · exact h

theorem cool (h : q.InRange) : q.cool.InRange := by
  unfold Seq.cool
  split_ifs <;> first | exact h | exact { h with coolOff := (Nat.sub_le _ _).trans h.coolOff }

theorem prepared (h : q.InRange) (i : SeqInput) : (i.prepared q).InRange := by
  unfold SeqInput.prepared
  split_ifs
  · exact { h.cool with }
  · exact h.cool

theorem tick (h : q.InRange) : q.tick.InRange where
  timer := q.tick_sum.trans_le h.timer
  syncRun := by simpa using h.syncRun
  coolOff := by simpa using h.coolOff

section
variable (hc : c.validate = .none)
include hc

theorem enter (h : q.InRange) (st : SeqState) : (q.enter c st).InRange :=
  { h with timer := timeoutRow_le hc st, syncRun := Nat.zero_le _ }

theorem fail (h : q.InRange) (why : LastReason) : (q.fail c why).InRange :=
  Seq.InRange.enter (q := { q with lastReason := why, attempts := min (c.retryLimit + 1) (q.attempts + 1), failurePending := true })
    hc { h with } _

theorem reachOff (h : q.InRange) : (q.reachOff c).seq.InRange := by
  have hoff := h.enter hc .off
  unfold Seq.reachOff
  dsimp only
  split_ifs
  · exact { hoff with coolOff := CalSet.coolOff_le hc }
  · exact { hoff with }
  · exact { hoff with }

theorem obey (h : q.InRange) (r : Request) : (q.obey c r).seq.InRange := by
  unfold Seq.obey
  split <;> first | exact h.enter hc _ | exact h

theorem wait (h : q.InRange) {i : SeqInput} (hi : i.cal = c) : (i.wait q).seq.InRange := by
  subst hi
  have hrun : i.syncRun q ≤ 50 := by unfold SeqInput.syncRun; split_ifs <;> omega
  unfold SeqInput.wait
  split
  · split_ifs
    · exact { h with }
    · exact h
  · exact h
  · split_ifs
    · exact h.enter hc _
    · exact h
  · split_ifs
    · exact h.enter hc _
    · exact h.tick.fail hc _
    · exact h.tick
  · split_ifs
    · exact h.enter hc _
    · exact h.tick.fail hc _
    · exact { h.tick with syncRun := hrun }
  · split_ifs
    · exact { h.enter hc .coupled with }
    · exact h.tick.fail hc _
    · exact h.tick
  · split_ifs
    · exact h.enter hc _
    · exact { h.tick with }
    · exact h.tick
  · split_ifs
    · exact h.reachOff hc
    · exact Seq.InRange.reachOff (q := q.lose .offTimeout) hc { h with }
    · exact h.tick

theorem faulted (h : q.InRange) {i : SeqInput} (hi : i.cal = c) : (i.faulted q).seq.InRange := by
  have hwait := h.wait hc hi
  subst hi
  unfold SeqInput.faulted
  split <;> first | exact h.fail hc _ | exact h.enter hc _ | exact hwait

theorem step (h : q.InRange) {i : SeqInput} (hi : i.cal = c) (r : Option Request) : (i.step r q).seq.InRange := by
  have hprepared := h.prepared i
  cases r with
  | some r => rw [SeqInput.step_some]; exact hprepared.obey (hi ▸ hc) r
  | none =>
    rw [SeqInput.step_none]
    split_ifs
    · exact hprepared.faulted hc hi
    · exact hprepared.wait hc hi

end

end Seq.InRange

/-! ### MODE's dwell runs (R51, R59, R60) -/

section
variable (i : ModeInput) (k : StopKind) (d : StopDest) (startRun run : Nat)

/-- A decision keeps the stop dwell run or sets it to 0. -/
theorem ModeInput.decision_stopRun (m : Mode) :
    (i.decision k d startRun run m).stopRun = run ∨ (i.decision k d startRun run m).stopRun = 0 := by
  cases m with
  | init => unfold ModeInput.decision ModeInput.decideInit; split_ifs <;> exact .inl rfl
  | parked => unfold ModeInput.decision ModeInput.decideParked; split_ifs <;> exact .inl rfl
  | electric => unfold ModeInput.decision ModeInput.decideElectric; split_ifs <;> exact .inl rfl
  | starting => unfold ModeInput.decision ModeInput.decideStarting; split_ifs <;> exact .inl rfl
  | hybrid => unfold ModeInput.decision ModeInput.decideCoupled; split_ifs <;> first | exact .inl rfl | exact .inr rfl
  | charge => unfold ModeInput.decision ModeInput.decideCoupled; split_ifs <;> first | exact .inl rfl | exact .inr rfl
  | stopping => unfold ModeInput.decision ModeInput.decideStopping; split_ifs <;> exact .inl rfl
  | safe => unfold ModeInput.decision ModeInput.decideSafe; split_ifs <;> exact .inl rfl

theorem ModeInput.startRun_le : i.startRun run ≤ 500 := by unfold ModeInput.startRun; split_ifs <;> omega

theorem ModeInput.stopRun_le (m : Mode) : i.stopRun m run ≤ 3000 := by unfold ModeInput.stopRun; split_ifs <;> omega

end

theorem ModeCtl.after_runs (m : ModeCtl) (i : ModeInput) : (m.after i).1.startRun ≤ 500 ∧ (m.after i).1.stopRun ≤ 3000 := by
  refine ⟨i.startRun_le _, ?_⟩
  have hle := i.stopRun_le m.stopRun m.mode
  obtain h | h := i.decision_stopRun m.stopKind m.stopDest (i.startRun m.startRun) (i.stopRun m.mode m.stopRun) m.mode
  · exact h.trans_le hle
  · exact h.trans_le (Nat.zero_le _)

@[simp] theorem ModeCtl.settle_startRun (c : CalSet) (soc : Int) (o : SeqOutcome) (m : ModeCtl) :
    (m.settle c soc o).startRun = m.startRun := by
  unfold ModeCtl.settle
  split <;> first | rfl | (split_ifs <;> rfl)

@[simp] theorem ModeCtl.settle_stopRun (c : CalSet) (soc : Int) (o : SeqOutcome) (m : ModeCtl) :
    (m.settle c soc o).stopRun = m.stopRun := by
  unfold ModeCtl.settle
  split <;> first | rfl | (split_ifs <;> rfl)

theorem SplitCtl.shortfall_run_le (dwell : Nat) (tu : Int) (c : SplitCtl) : (c.shortfall dwell tu).1.shortfallRun ≤ 1000 := by
  unfold SplitCtl.shortfall
  dsimp only
  split_ifs <;> simp

section
variable (dwell : Nat) (tu : Int) (c : SplitCtl)

@[simp] theorem SplitCtl.shortfall_prevTd : (c.shortfall dwell tu).1.prevTd = c.prevTd := by
  unfold SplitCtl.shortfall
  dsimp only
  split_ifs <;> rfl

@[simp] theorem SplitCtl.shortfall_prevTe : (c.shortfall dwell tu).1.prevTe = c.prevTe := by
  unfold SplitCtl.shortfall
  dsimp only
  split_ifs <;> rfl

@[simp] theorem SplitCtl.shortfall_prevTm : (c.shortfall dwell tu).1.prevTm = c.prevTm := by
  unfold SplitCtl.shortfall
  dsimp only
  split_ifs <;> rfl

end

/-! ### The whole state -/

theorem CalSet.defaults_valid : CalSet.defaults.validate = .none := by decide


/-- All quantities and counters in their ranges, block by block. -/
structure State.InRange (s : State) : Prop where
  cal : s.cal.active.validate = .none
  commitCount : s.cal.commitCount ≤ 65535
  env : EnvelopesInRange s.env
  window : ∀ r, (s.env.get r).e3 = 0 ∨ Between 2 50 (s.env.get r).e3
  envCopy : EnvelopesInRange s.envCopy
  held : s.heldVals.InRange
  snap : s.snap.InRange
  spd : s.spd.InRange s.cal.active
  dwellRuns : s.modeCtl.startRun ≤ 500 ∧ s.modeCtl.stopRun ≤ 3000
  seq : s.seq.InRange
  record : s.record.out.Sound
  pages : ∀ p, (s.ports.get p).page.out.Sound
  previous : s.split.prevTd = s.record.td ∧ s.split.prevTe = s.record.te ∧ s.split.prevTm = s.record.tm
  handedOver : s.stage = .publish → s.splitOut.Sound
  shortfallRun : s.split.shortfallRun ≤ 1000
  tmr : 1 ≤ s.tmr ∧ s.tmr ≤ 80000

theorem State.inRange_iff (s : State) : s.InRange ↔ s.Bounded ∧ s.CountersInRange := by
  constructor
  · intro h
    exact ⟨{ h, h.spd with }, { h, h.spd, h.seq with }⟩
  · rintro ⟨hb, hc⟩
    exact { hb, hc with spd := { hb, hc with }, seq := { hc with } }

theorem SplitOut.Sound.reset : SplitRecord.reset.out.Sound := by constructor <;> simp [SplitRecord.reset, SplitRecord.out, Between]

theorem periodReload_inRange : 1 ≤ Config.periodReload ∧ Config.periodReload ≤ 80000 := by decide

namespace State.InRange

variable {s : State}

theorem broadcast (h : s.InRange) (k : NoticeKind) : (s.broadcast k).InRange := { h with }

theorem broadcastIf (h : s.InRange) (b : Bool) (k : NoticeKind) : (s.broadcastIf b k).InRange := by
  unfold State.broadcastIf
  split_ifs
  · exact h.broadcast k
  · exact h

theorem broadcastAll (l : List NoticeKind) : ∀ {s : State}, s.InRange → (l.foldl (fun t k => t.broadcast k) s).InRange := by
  induction l with
  | nil => exact fun h => h
  | cons k l ih => exact fun h => ih (h.broadcast k)

/-- The part in reset. -/
theorem assertReset (s : State) : s.assertReset.InRange where
  cal := CalSet.defaults_valid
  commitCount := Nat.zero_le _
  env := .reset
  window r := by cases r <;> exact .inl rfl
  envCopy := .reset
  held := .reset
  snap := .reset
  spd := .reset _ _
  dwellRuns := ⟨Nat.zero_le _, Nat.zero_le _⟩
  seq := .reset
  record := .reset
  pages p := by cases p <;> exact .reset
  previous := ⟨rfl, rfl, rfl⟩
  handedOver h := nomatch h
  shortfallRun := Nat.zero_le _
  tmr := periodReload_inRange

theorem splitInput (h : s.InRange) : s.splitInput.InRange where
  snap := h.snap
  nSel := h.spd.nSel
  nEff := ⟨lt_of_lt_of_le (by decide) h.spd.nEff.1.1, h.spd.nEff.2⟩
  eta := CalSet.eta_between h.cal
  decayRamp := h.envCopy.vehicle.2.2.1
  prevTd := by
    show Between _ _ s.split.prevTd
    rw [h.previous.1]
    exact h.record.td

theorem motorSpeed (h : s.InRange) : ∀ x, s.snap.motorSpeed = some x → Between 0 9000 x := by
  intro x hx
  unfold Snapshot.motorSpeed at hx
  split_ifs at hx
  exact h.snap.motorSpeed x hx

theorem settleSource (h : s.InRange) {r : Role} (hst : s.stage = .src) (hd : s.snapDone.get r = false) :
    (s.settleSource r).InRange where
  cal := by simpa using h.cal
  commitCount := by simpa using h.commitCount
  env := by simpa using h.env
  window := by simpa using h.window
  envCopy := by rw [State.settleSource_envCopy hd]; exact h.env.copy h.envCopy r
  held := by simpa using h.held
  snap := by
    rw [State.settleSource_snap hd]
    exact State.snapPart_inRange (s := { s with src := _, envCopy := s.envCopy.set r (s.env.get r) }) h.snap h.held h.record.td
      (h.env.copy h.envCopy r) r
  spd := by simpa using h.spd
  dwellRuns := by simpa using h.dwellRuns
  seq := by simpa using h.seq
  record := by simpa using h.record
  pages := by simpa using h.pages
  previous := by simpa using h.previous
  handedOver hp := by simp [hst] at hp
  shortfallRun := by simpa using h.shortfallRun
  tmr := by simpa using h.tmr

end State.InRange

theorem inRange_kept : Kept State.InRange where
  queue _ _ h := { h with }
  assertReset s _ := .assertReset s
  releaseReset _ _ _ s hr h := by
    unfold State.releaseReset
    rw [hr]
    exact { h with
      spd := { h.spd with }
      pages := fun p => by cases p; exacts [h.pages .p0, h.pages .p1, h.pages .p2, h.pages .p3]
      tmr := periodReload_inRange }
  port p q s hq h :=
    { h with
      pages := fun x => by
        unfold State.setPort
        rw [PerPort.get_set]
        split
        · obtain hp | hp := hq.page <;> rw [hp]
          · exact h.pages p
          · exact h.record
        · exact h.pages x }
  notices _ _ _ _ _ _ h := { h with }
  takeReport r w s _ h := by
    refine State.InRange.broadcastIf ?_ _ _
    exact { h with held := storeReport_inRange h.env h.held r w }
  takeDeclare r w s _ h := by
    have henv := h.env.declare r w
    refine State.InRange.broadcast ?_ _
    refine { h with
      env := henv
      held := by simpa using reclip_inRange henv h.held r
      window := fun q => ?_ }
    rw [PerRole.get_set]
    split
    · exact .inr (declaredEnvelope_window r w)
    · exact h.window q
  claim _ _ _ _ _ _ h := { h with }
  openPeriod _ _ _ _ h := { h with spd := h.spd.boundary, tmr := periodReload_inRange, handedOver := (fun hx => nomatch hx) }
  applyCommit c s _ _ _ hv h := by
    refine State.InRange.broadcast ?_ _
    exact { h with cal := hv, commitCount := Nat.min_le_left _ _, spd := h.spd.adjust c.staging _, seq := h.seq.adjust _ _ }
  rejectCommit _ _ _ _ _ h := by
    refine State.InRange.broadcast ?_ _
    exact { h with }
  settleSource _ _ _ hst hd h := h.settleSource hst hd
  snapshotDone _ _ _ h := { h with handedOver := (fun hx => nomatch hx) }
  speedStage s hr hs h := by
    rw [State.speedStage_eq hr hs]
    refine State.InRange.broadcastIf ?_ _ _
    exact { h with spd := h.spd.stage (CalSet.nFloor_between h.cal) h.motorSpeed, handedOver := (fun hx => nomatch hx) }
  samplePin b s hr h := by
    unfold State.samplePin
    rw [if_pos hr]
    exact { h with spd := h.spd.sample b }
  modeStage s hr hs h := by
    rw [State.modeStage_eq hr hs]
    refine State.InRange.broadcastIf (State.InRange.broadcastIf ?_ _ _) _ _
    exact { h with seq := h.seq.cutCoolOff _, dwellRuns := s.modeCtl.after_runs _, handedOver := (fun hx => nomatch hx) }
  seqStage s hr hs h := by
    rw [State.seqStage_eq hr hs]
    refine State.InRange.broadcastAll _ ?_
    exact { h with
      seq := h.seq.step h.cal rfl s.request
      dwellRuns := by simpa using h.dwellRuns
      handedOver := (fun hx => nomatch hx) }
  splitStage s hr hs h := by
    rw [State.splitStage_eq hr hs]
    refine State.InRange.broadcastIf ?_ _ _
    exact { h with
      previous := by simpa using h.previous
      handedOver := fun _ => SplitInput.out_sound h.splitInput
      shortfallRun := SplitCtl.shortfall_run_le _ _ _ }
  publishStage s hr hs h := by
    rw [State.publishStage_eq hr hs]
    refine State.InRange.broadcastIf ?_ _ _
    exact { h with record := h.handedOver hs, previous := ⟨rfl, rfl, rfl⟩, handedOver := (fun hx => nomatch hx) }
  pulse _ _ _ h := { h with }
  sampleDiv _ _ h := { h with }
  tmr s hlt h := { h with tmr := ⟨by dsimp only; omega, (Nat.sub_le _ _).trans h.tmr.2⟩ }

/-- Settles O59: each operation keeps the quantities and the counters of each block in their ranges. -/
theorem stepKeepsTheRanges : Obligations.StepKeepsTheRanges := fun s t hb hc he =>
  t.inRange_iff.mp (inRange_kept.step (s.inRange_iff.mpr ⟨hb, hc⟩) he)

end Sys2Proof.Machine
end

section
/-! SUPPORT. Steps, the clock and the reset pin: what one REFCLK cycle makes of the counters and the stage, and what RST_N does. -/

namespace Sys2Proof.Machine

/-! ### Commands and their state alone -/

/-- What frames and PSEL do leaves the queue and, below, the active set. -/
theorem keptByPorts_pending (l : List Instr) : KeptByPorts (fun t => t.pending = l) where
  port _ _ _ _ h := h
  notices _ _ _ _ _ _ h := h
  report _ _ _ _ h := by simpa using h
  declare _ _ _ _ h := by simpa using h
  claim _ _ _ _ _ _ h := h

theorem keptByPorts_active (set : CalSet) : KeptByPorts (fun t => t.cal.active = set) where
  port _ _ _ _ h := h
  notices _ _ _ _ _ _ h := h
  report r w s _ h := by
    by_cases hu : (s.src.get r).state = .undeclared
    · rwa [serveReport_of_undeclared hu]
    · rw [serveReport_of_declared hu]
      unfold State.finishSource
      split_ifs <;> simpa using h
  declare r w s _ h := by
    cases ho : declareOpen s.record.mode with
    | true =>
      rw [serveDeclare_of_open ho]
      unfold State.finishSource
      split_ifs <;> simpa using h
    | false => rwa [serveDeclare_of_closed ho]
  claim _ _ _ _ _ _ h := h

/-- A command of a port answers a next state. -/
theorem exec_port_next {c : Instr} {p : PortId} (h : port c = some p) (s : State) : ∃ t, exec c s = .next t := by
  obtain rfl | rfl | ⟨b, x, rfl⟩ | ⟨k, tag, w, rfl⟩ := forms_of_port c p h
  · exact ⟨_, rfl⟩
  · exact ⟨_, rfl⟩
  · exact ⟨_, rfl⟩
  · exact ⟨_, exec_command k p tag w s⟩

/-- Settles O1: it is how `step` is defined. -/
theorem stepRunsFrontCommand : Obligations.StepRunsFrontCommand := by
  intro c rest s h
  unfold step
  rw [h]

/-- Settles O2: a command of a port is one of four forms, and each other command is one operation that leaves the queue. -/
theorem everyCommandCompletesAndKeepsTheQueue : Obligations.EveryCommandCompletesAndKeepsTheQueue := by
  intro c s
  cases hc : port c with
  | some p =>
    obtain ⟨t, ht⟩ := exec_port_next hc s
    exact ⟨t, ht, (keptByPorts_pending s.pending).exec_port hc rfl ht⟩
  | none =>
    cases c <;> simp only [port, reduceCtorEq] at hc
    case rstNAsserted => exact ⟨_, rfl, rfl⟩
    case rstNReleased =>
      refine ⟨_, rfl, ?_⟩
      unfold State.releaseReset
      split <;> rfl
    case coolOffEnd =>
      refine ⟨_, rfl, ?_⟩
      split <;> simp
    all_goals exact ⟨_, rfl, by simp⟩

/-- Settles O13: a frame leaves the other ports, and no stage, clock or sample touches one. -/
theorem onlyItsOwnFramesChangeAPort : Obligations.OnlyItsOwnFramesChangeAPort := by
  intro c p s t he hc hassert hrelease
  cases hq : port c with
  | some q =>
    have hne : p ≠ q := fun h => hc (h ▸ hq)
    obtain rfl | rfl | ⟨b, x, rfl⟩ | ⟨k, tag, w, rfl⟩ := forms_of_port c q hq
    · cases he
      unfold State.pselRises
      split_ifs <;> simp [hne]
    · cases he
      unfold State.pselFalls
      split_ifs <;> simp [hne]
    · cases he; exact State.rawFrame_ports_ne q p _ s hne
    · rw [exec_command] at he; cases he; exact State.goodFrame_ports_ne k q p tag w s hne
  | none =>
    cases c <;> simp only [port, reduceCtorEq] at hq
    case rstNAsserted => exact absurd rfl hassert
    case rstNReleased straps spd low => exact absurd rfl (hrelease straps spd low)
    case coolOffEnd =>
      cases he
      split <;> simp
    all_goals cases he; simp

/-! ### The active set (R144, R154) -/

/-- A boundary leaves the active set, or settles a pending commit that passes its validation. -/
theorem State.beginPeriod_active (pin : Bool) (s : State) : (s.beginPeriod pin).cal.active = s.cal.active
    ∨ s.stage = .idle ∧ ∃ m, s.cal.claim = some m ∧ m.pending = true ∧ m.staging.validate = .none
        ∧ (s.beginPeriod pin).cal.active = m.staging := by
  by_cases hg : s.rstN = true ∧ s.stage = .idle
  · obtain ⟨hr, hs⟩ := hg
    rw [State.beginPeriod_eq hr hs]
    unfold State.settleCommit
    split
    · next m hm =>
      split_ifs with hp hv
      · exact .inr ⟨hs, m, hm, hp, hv, rfl⟩
      · exact .inl rfl
      · exact .inl rfl
    · exact .inl rfl
  · exact .inl (by unfold State.beginPeriod; rw [if_neg hg])

/-- Settles O52: of all commands only RST_N and a boundary that applies a commit change the active set. -/
theorem activeSetChangesOnlyAtABoundary : Obligations.ActiveSetChangesOnlyAtABoundary := by
  intro c s t he hne
  cases hc : port c with
  | some p => exact absurd ((keptByPorts_active s.cal.active).exec_port hc rfl he) hne
  | none =>
    cases c <;> simp only [port, reduceCtorEq] at hc
    case rstNAsserted => cases he; exact .inl ⟨rfl, rfl⟩
    case rstNReleased =>
      cases he
      refine absurd ?_ hne
      unfold State.releaseReset
      split <;> rfl
    case periodBoundary pin =>
      cases he
      obtain h | ⟨hs, m, hm, hp, hv, ha⟩ := s.beginPeriod_active pin
      · exact absurd h hne
      · exact .inr ⟨pin, m, rfl, hs, hm, hp, hv, ha⟩
    case snapshot =>
      cases he
      refine absurd ?_ hne
      unfold State.snapshotStage
      split_ifs <;> simp
    case coolOffEnd =>
      cases he
      refine absurd ?_ hne
      split <;> simp
    case freshnessExpiry =>
      cases he
      refine absurd ?_ hne
      unfold State.sourceExpiry
      split_ifs <;> simp
    case holdExpiry =>
      cases he
      refine absurd ?_ hne
      unfold State.sourceExpiry
      split_ifs <;> simp
    case requalifyExpiry =>
      cases he
      refine absurd ?_ hne
      unfold State.sourceExpiry
      split_ifs <;> simp
    all_goals cases he; exact absurd (by simp) hne

/-! ### RST_N (R192 to R197) -/

/-- Settles O6: a port ignores PSEL, and no stage, sample, boundary or pulse is due. -/
theorem nothingRunsInReset : Obligations.NothingRunsInReset := by
  intro c s hr hpin htimer hassert hrelease
  have hdue (st : Stage) : ¬ (s.rstN = true ∧ s.stage = st) := by simp [hr]
  cases hc : port c with
  | some p =>
    obtain rfl | rfl | ⟨b, x, rfl⟩ | ⟨k, tag, w, rfl⟩ := forms_of_port c p hc
    · exact congrArg _ (State.pselRises_reset hr _)
    · exact congrArg _ (if_neg (by simp [hr]))
    · exact congrArg _ (State.pselRises_reset hr _)
    · rw [exec_command]; exact congrArg _ (State.pselRises_reset hr _)
  | none =>
    cases c <;> simp only [port, reduceCtorEq] at hc
    case rstNAsserted => exact absurd rfl hassert
    case rstNReleased straps spd low => exact absurd rfl (hrelease straps spd low)
    case periodBoundary => exact congrArg _ (if_neg (hdue _))
    case snapshot => exact congrArg _ (if_neg (hdue _))
    case freshnessExpiry => exact congrArg _ (if_neg (by simp [hr]))
    case holdExpiry => exact congrArg _ (if_neg (by simp [hr]))
    case requalifyExpiry => exact congrArg _ (if_neg (by simp [hr]))
    case spdSample => exact congrArg _ (if_neg (by simp [hr]))
    case speedUnitStage => exact congrArg _ (if_neg (hdue _))
    case modeDecision => exact congrArg _ (if_neg (hdue _))
    case sequencerStage => exact congrArg _ (if_neg (hdue _))
    case crankTimeout => exact congrArg _ (if_neg (by simp [State.timesOut, hr]))
    case syncTimeout => exact congrArg _ (if_neg (by simp [State.timesOut, hr]))
    case clutchTimeout => exact congrArg _ (if_neg (by simp [State.timesOut, hr]))
    case releaseTimeout => exact congrArg _ (if_neg (by simp [State.timesOut, hr]))
    case offTimeout => exact congrArg _ (if_neg (by simp [State.timesOut, hr]))
    case coolOffEnd => exact congrArg _ (if_neg (by simp [State.coolOffEnds, hr]))
    case splitStage => exact congrArg _ (if_neg (hdue _))
    case publication => exact congrArg _ (if_neg (hdue _))
    case epochPulseEnd =>
      cases s
      cases hpin
      cases htimer
      rfl

/-- Settles O5: the reset state is the release of what RST_N low leaves. -/
theorem resetReturnsEveryBlock : Obligations.ResetReturnsEveryBlock := by
  intro s
  refine ⟨⟨_, rfl, rfl, rfl, rfl, fun p => ⟨rfl, rfl⟩, rfl, rfl, rfl, rfl, rfl, rfl, rfl, rfl, rfl, rfl, rfl, rfl, rfl, fun p => ?_⟩, ?_⟩
  · cases p <;> rfl
  · exact ⟨_, rfl, _, rfl, rfl⟩

theorem exists_portId {P : PortId → Prop} : (∃ q, P q) ↔ P .p0 ∨ P .p1 ∨ P .p2 ∨ P .p3 := by
  constructor
  · rintro ⟨q, hq⟩
    cases q <;> simp [hq]
  · rintro (h | h | h | h) <;> exact ⟨_, h⟩

/-- A role is taken exactly where a lower-numbered port has it (R194). -/
theorem roleTaken_iff (r : PerPort Role) (p : PortId) :
    (roleTaken r).get p = true ↔ ∃ q, portNumber q < portNumber p ∧ r.get q = r.get p := by
  rw [exists_portId]
  cases p <;> simp only [roleTaken, PerPort.get, portNumber, Bool.or_eq_true, beq_iff_eq] <;> grind

theorem strapRole_code (x : StrapPins) : (strapRole x).code = 2 * bitNat x.hi + bitNat x.lo := by
  obtain ⟨hi, lo⟩ := x
  cases hi <;> cases lo <;> rfl

/-- Settles O7. -/
theorem releaseTakesTheStraps : Obligations.ReleaseTakesTheStraps := by
  intro straps spd low s
  refine ⟨fun hr => congrArg _ (if_pos hr), fun hr => ⟨_, congrArg Host.Outcome.next (if_neg (by simp [hr])), fun p => ?_, fun p => ?_, fun p => ?_, rfl⟩⟩
  · cases p <;> exact strapRole_code _
  · have h := roleTaken_iff ⟨strapRole straps.p0, strapRole straps.p1, strapRole straps.p2, strapRole straps.p3⟩ p
    rw [exists_portId] at h ⊢
    cases p <;> exact h
  · cases p <;> rfl

/-- Settles O8: the rise ends the wait, whatever frame it would have completed. -/
theorem waitingPortIgnoresFrames : Obligations.WaitingPortIgnoresFrames := by
  intro p s hr
  refine ⟨fun hw => ⟨?_, ?_, fun c hc hne => ?_⟩, fun hw => ?_⟩
  · exact congrArg _ (if_neg (by simp [hw]))
  · exact congrArg _ (State.pselRises_waiting hr hw _)
  · have hrise (f : State → State) : s.pselRises p f = s.pselRises p id := by
      rw [State.pselRises_waiting hr hw, State.pselRises_waiting hr hw]
    obtain rfl | rfl | ⟨b, x, rfl⟩ | ⟨k, tag, w, rfl⟩ := forms_of_port c p hc
    · rfl
    · exact absurd rfl hne
    · exact congrArg _ (hrise _)
    · rw [exec_command]; exact congrArg _ (hrise _)
  · exact congrArg _ (State.pselRises_live ⟨hr, hw⟩ id)

/-- Settles O60: the reset state is the release of a part in reset, which meets every invariant. -/
theorem resetIsSafe : Obligations.ResetIsSafe := by
  have hrange : State.reset.InRange := inRange_kept.anyRelease
    ⟨⟨false, false⟩, ⟨false, true⟩, ⟨true, false⟩, ⟨true, true⟩⟩ false (.all false) (State.InRange.assertReset .reset)
  have hpaired : State.reset.PairedNotes := .reset rfl rfl rfl rfl
  obtain ⟨hbounded, hcounters⟩ := State.reset.inRange_iff.mp hrange
  refine ⟨hpaired.1, hpaired.2, fun r => ?_, ?_, hbounded, hcounters⟩
  · cases r <;> exact sourceNotes_reset _
  · refine ⟨fun p => ?_, fun p hp => ?_, (fun h => nomatch h), (fun _ h => nomatch h), fun p => ?_⟩
    · cases p <;> rfl
    · cases p <;> exact absurd hp (by decide)
    · cases p <;> decide

/-! ### One REFCLK cycle (R99, R131, R196; log 2) -/

section
variable {s : State}

theorem step_of_empty (h : s.pending = []) : step s = .next s.clock := by
  unfold step
  rw [h]

theorem State.clock_eq (hr : s.rstN = true) : s.clock = s.clockEpoch.clockStage.clockSample.clockTimer := if_pos hr

/-- The pulse timer is all of the state that a cycle's first part touches. -/
theorem State.clockEpoch_eq (s : State) : s.clockEpoch =
    { s with epochPin := s.clockEpoch.epochPin, epochTimer := s.clockEpoch.epochTimer } := by
  unfold State.clockEpoch
  split_ifs <;> rfl

theorem State.clockEpoch_of_low (h : s.epochPin = false) : s.clockEpoch = s := if_neg (by simp [h])

theorem State.clockEpoch_of_high (h : s.epochPin = true) (ht : 1 < s.epochTimer) :
    s.clockEpoch = { s with epochTimer := s.epochTimer - 1 } := by
  unfold State.clockEpoch
  rw [if_pos h, if_neg (by omega)]

theorem State.clockEpoch_of_end (h : s.epochPin = true) (ht : s.epochTimer ≤ 1) : s.clockEpoch = s.endPulse := by
  unfold State.clockEpoch
  rw [if_pos h, if_pos ht]

theorem State.clockStage_of_idle (h : s.stage = .idle) : s.clockStage = s := by
  unfold State.clockStage
  rw [h]

theorem State.clockSample_of_running (h : 1 < s.sampleDiv) : s.clockSample = { s with sampleDiv := s.sampleDiv - 1 } :=
  if_neg (by omega)

theorem State.clockSample_of_due (h : s.sampleDiv ≤ 1) : s.clockSample = s.samplePin s.spdPin := if_pos h

theorem State.clockTimer_of_running (h : 1 < s.tmr) : s.clockTimer = { s with tmr := s.tmr - 1 } := if_neg (by omega)

theorem State.clockTimer_of_due (h : s.tmr ≤ 1) : s.clockTimer = s.beginPeriod s.spdPin := if_pos h

/-- Settles O3: with no operation in flight a cycle is the pulse timer, the sample clock and the period timer, in this order. -/
theorem idleStepIsOneClockCycle : Obligations.IdleStepIsOneClockCycle := by
  intro s hq hs
  rw [step_of_empty hq]
  refine ⟨fun hr => congrArg _ (if_neg (by simp [hr])), fun hr => ⟨s.clockEpoch, State.clockEpoch_of_low,
    State.clockEpoch_of_high, fun h ht => ?_, ?_⟩⟩
  · rw [State.clockEpoch_of_end h ht]
    exact ⟨rfl, rfl⟩
  · have hfields := s.clockEpoch_eq
    have hstage : s.clockEpoch.stage = .idle := by rw [hfields]; exact hs
    have hdiv : s.clockEpoch.sampleDiv = s.sampleDiv := by rw [hfields]
    have htmr : s.clockEpoch.tmr = s.tmr := by rw [hfields]
    have hpin : s.clockEpoch.spdPin = s.spdPin := by rw [hfields]
    have hrst : s.clockEpoch.rstN = true := by rw [hfields]; exact hr
    rw [State.clock_eq hr, State.clockStage_of_idle hstage]
    generalize s.clockEpoch = p at *
    rw [← hdiv, ← htmr, ← hpin]
    refine ⟨fun hd ht => ?_, fun hd ht => ?_, fun hd ht => ?_, fun hd ht => ?_⟩
    · rw [State.clockSample_of_running hd, State.clockTimer_of_running (by exact ht)]
    · refine ⟨_, rfl, ?_⟩
      rw [State.clockSample_of_due hd, State.clockTimer_of_running (by simpa using ht), State.samplePin_tmr]
    · rw [State.clockSample_of_running hd, State.clockTimer_of_due (by exact ht)]
      rfl
    · refine ⟨_, rfl, ?_⟩
      rw [State.clockSample_of_due hd, State.clockTimer_of_due (by simpa using ht)]
      have hpin' : (p.samplePin p.spdPin).spdPin = p.spdPin := by
        unfold State.samplePin
        split <;> rfl
      rw [hpin']
      rfl

/-! ### The clock of a part at work -/

/-- A part at work: RST_N high and no command waiting. -/
structure State.Works (s : State) : Prop where
  queue : s.pending = []
  rstN : s.rstN = true

/-- The stage after the next (R99). -/
def Stage.next : Stage → Stage
  | .idle => .idle
  | .src => .spd
  | .spd => .mode
  | .mode => .seq
  | .seq => .split
  | .split => .publish
  | .publish => .idle

@[simp] theorem State.clockEpoch_stage : s.clockEpoch.stage = s.stage := by rw [s.clockEpoch_eq]
@[simp] theorem State.clockEpoch_rstN : s.clockEpoch.rstN = s.rstN := by rw [s.clockEpoch_eq]
@[simp] theorem State.clockEpoch_tmr : s.clockEpoch.tmr = s.tmr := by rw [s.clockEpoch_eq]
@[simp] theorem State.clockEpoch_record : s.clockEpoch.record = s.record := by rw [s.clockEpoch_eq]
@[simp] theorem State.clockEpoch_pending : s.clockEpoch.pending = s.pending := by rw [s.clockEpoch_eq]

@[simp] theorem State.clockStage_tmr : s.clockStage.tmr = s.tmr := by unfold State.clockStage; split <;> simp
@[simp] theorem State.clockStage_rstN : s.clockStage.rstN = s.rstN := by unfold State.clockStage; split <;> simp
@[simp] theorem State.clockStage_pending : s.clockStage.pending = s.pending := by unfold State.clockStage; split <;> simp

theorem State.clockStage_stage (hr : s.rstN = true) : s.clockStage.stage = s.stage.next := by
  unfold State.clockStage
  split <;> rename_i hs
  · rw [hs]; rfl
  · rw [State.snapshotStage_eq hr hs, hs]; rfl
  · simp [State.speedStage_eq hr hs, hs, Stage.next]
  · simp [State.modeStage_eq hr hs, hs, Stage.next]
  · simp [State.seqStage_eq hr hs, hs, Stage.next]
  · simp [State.splitStage_eq hr hs, hs, Stage.next]
  · simp [State.publishStage_eq hr hs, hs, Stage.next]

theorem State.clockStage_record (h : s.stage ≠ .publish) : s.clockStage.record = s.record := by
  unfold State.clockStage
  split <;> first | (exact absurd ‹_› h) | simp

@[simp] theorem State.clockSample_stage : s.clockSample.stage = s.stage := by unfold State.clockSample; split_ifs <;> simp
@[simp] theorem State.clockSample_rstN : s.clockSample.rstN = s.rstN := by unfold State.clockSample; split_ifs <;> simp
@[simp] theorem State.clockSample_tmr : s.clockSample.tmr = s.tmr := by unfold State.clockSample; split_ifs <;> simp
@[simp] theorem State.clockSample_record : s.clockSample.record = s.record := by unfold State.clockSample; split_ifs <;> simp
@[simp] theorem State.clockSample_pending : s.clockSample.pending = s.pending := by unfold State.clockSample; split_ifs <;> simp
@[simp] theorem State.clockSample_epochPin : s.clockSample.epochPin = s.epochPin := by unfold State.clockSample; split_ifs <;> simp
@[simp] theorem State.clockSample_epochTimer : s.clockSample.epochTimer = s.epochTimer := by
  unfold State.clockSample; split_ifs <;> simp

/-- A cycle in which the period timer does not run out: its counters, and the stage of the operation in flight. -/
theorem State.clock_running (h : s.Works) (ht : 1 < s.tmr) : s.clock.Works ∧ s.clock.tmr = s.tmr - 1
    ∧ s.clock.stage = s.stage.next ∧ s.clock.record = s.clockEpoch.clockStage.record
    ∧ s.clock.epochPin = s.clockEpoch.clockStage.epochPin ∧ s.clock.epochTimer = s.clockEpoch.clockStage.epochTimer := by
  rw [State.clock_eq h.rstN, State.clockTimer_of_running (by simpa using ht)]
  refine ⟨⟨by simpa using h.queue, by simpa using h.rstN⟩, by simp, ?_, by simp, by simp, by simp⟩
  simpa using State.clockStage_stage (s := s.clockEpoch) (by simpa using h.rstN)

/-- A cycle between two operations in which the period timer does not run out. -/
theorem State.clock_idle (h : s.Works) (hs : s.stage = .idle) (ht : 1 < s.tmr) : s.clock.Works ∧ s.clock.tmr = s.tmr - 1
    ∧ s.clock.stage = .idle ∧ s.clock.record = s.record ∧ s.clock.epochPin = s.clockEpoch.epochPin
    ∧ s.clock.epochTimer = s.clockEpoch.epochTimer := by
  have hrun := State.clock_running h ht
  rw [State.clockStage_of_idle (s := s.clockEpoch) (by simpa using hs), hs] at hrun
  simpa [Stage.next] using hrun

/-- The cycle between two operations in which the period timer runs out is the boundary (R196). -/
theorem State.clock_boundary (h : s.Works) (hs : s.stage = .idle) (ht : s.tmr = 1) :
    s.clock.tmr = 80000 ∧ s.clock.stage = .src ∧ s.clock.record = s.record := by
  rw [State.clock_eq h.rstN, State.clockStage_of_idle (s := s.clockEpoch) (by simpa using hs),
    State.clockTimer_of_due (by simp [ht]), State.beginPeriod_eq (by simpa using h.rstN) (by simpa using hs)]
  simp [State.openPeriod, Config.periodReload]

/-- A cycle of an operation before its publication. -/
theorem State.clock_stage (h : s.Works) (hp : s.stage ≠ .publish) (ht : 1 < s.tmr) :
    s.clock.Works ∧ s.clock.tmr = s.tmr - 1 ∧ s.clock.stage = s.stage.next ∧ s.clock.record = s.record := by
  obtain ⟨hw, htmr, hst, hrec, -, -⟩ := State.clock_running h ht
  rw [State.clockStage_record (by simpa using hp)] at hrec
  exact ⟨hw, htmr, hst, by simpa using hrec⟩

/-- The cycle of the publication. -/
theorem State.clock_publish (h : s.Works) (hp : s.stage = .publish) (ht : 1 < s.tmr) :
    s.clock.Works ∧ s.clock.stage = .idle ∧ s.clock.record.epoch = s.record.epoch + 1 ∧ s.clock.epochPin = true
      ∧ s.clock.epochTimer = 160 := by
  obtain ⟨hw, -, hst, hrec, hpin, htimer⟩ := State.clock_running h ht
  have hpublish : s.clockEpoch.clockStage = s.clockEpoch.publishStage := by
    unfold State.clockStage
    rw [State.clockEpoch_stage, hp]
  rw [hpublish, State.publishStage_eq (by simpa using h.rstN) (by simpa using hp)] at hrec hpin htimer
  rw [hp] at hst
  refine ⟨hw, hst, ?_, by simpa using hpin, by simpa [Config.epochPulse] using htimer⟩
  simp [hrec, State.newRecord]

theorem steps_succ {n : Nat} {t : State} (h : s.Works) (ht : Steps n s.clock t) : Steps (n + 1) s t :=
  ⟨_, step_of_empty h.queue, ht⟩

end

/-- The period timer counts down to the boundary. -/
theorem steps_to_boundary (n : Nat) : ∀ s : State, s.Works → s.stage = .idle → s.tmr = n + 1 →
    (∀ m, m ≤ n → ∃ u, Steps m s u ∧ u.tmr = n + 1 - m ∧ u.stage = .idle ∧ u.record = s.record)
    ∧ ∃ t, Steps (n + 1) s t ∧ t.tmr = 80000 ∧ t.stage = .src ∧ t.record = s.record := by
  induction n with
  | zero =>
    intro s hw hs ht
    obtain ⟨htmr, hst, hrec⟩ := State.clock_boundary hw hs ht
    refine ⟨fun m hm => ?_, _, steps_succ hw rfl, htmr, hst, hrec⟩
    obtain rfl : m = 0 := by omega
    exact ⟨s, rfl, ht, hs, rfl⟩
  | succ n ih =>
    intro s hw hs ht
    obtain ⟨hw', htmr, hst, hrec, -, -⟩ := State.clock_idle hw hs (by omega)
    obtain ⟨hbefore, t, hsteps, hboundary⟩ := ih s.clock hw' hst (by omega)
    rw [hrec] at hboundary
    refine ⟨fun m hm => ?_, t, steps_succ hw hsteps, hboundary⟩
    cases m with
    | zero => exact ⟨s, rfl, ht, hs, rfl⟩
    | succ m =>
      obtain ⟨u, hu, hut, hus, hur⟩ := hbefore m (by omega)
      exact ⟨u, steps_succ hw hu, by omega, hus, hur.trans hrec⟩

/-- The pulse timer counts down to the pulse's end (R131). -/
theorem steps_to_pulse_end (n : Nat) : ∀ s : State, s.Works → s.stage = .idle → s.epochPin = true → s.epochTimer = n + 1 →
    n + 1 < s.tmr →
    (∀ m, m ≤ n → ∃ u, Steps m s u ∧ u.epochPin = true)
    ∧ ∃ t, Steps (n + 1) s t ∧ t.epochPin = false ∧ t.epochTimer = 0 ∧ t.record = s.record := by
  induction n with
  | zero =>
    intro s hw hs hp he ht
    obtain ⟨-, -, -, hrec, hpin, htimer⟩ := State.clock_idle hw hs ht
    rw [State.clockEpoch_of_end hp (by omega)] at hpin htimer
    refine ⟨fun m hm => ?_, _, steps_succ hw rfl, hpin, htimer, hrec⟩
    obtain rfl : m = 0 := by omega
    exact ⟨s, rfl, hp⟩
  | succ n ih =>
    intro s hw hs hp he ht
    obtain ⟨hw', htmr, hst, hrec, hpin, htimer⟩ := State.clock_idle hw hs (by omega)
    rw [State.clockEpoch_of_high hp (by omega)] at hpin htimer
    obtain ⟨hbefore, t, hsteps, hend⟩ := ih s.clock hw' hst (hpin.trans hp) (by rw [htimer]; dsimp only; omega) (by omega)
    rw [hrec] at hend
    refine ⟨fun m hm => ?_, t, steps_succ hw hsteps, hend⟩
    cases m with
    | zero => exact ⟨s, rfl, hp⟩
    | succ m =>
      obtain ⟨u, hu, hup⟩ := hbefore m (by omega)
      exact ⟨u, steps_succ hw hu, hup⟩

/-- Six cycles after the boundary the operation has published (R99, R129). -/
theorem steps_of_operation {s : State} (hw : s.Works) (hs : s.stage = .src) (ht : 6 < s.tmr) :
    ∃ t, Steps 6 s t ∧ t.stage = .idle ∧ t.record.epoch = s.record.epoch + 1 ∧ t.epochPin = true ∧ t.epochTimer = 160
      ∧ t.pending = [] := by
  obtain ⟨hw1, ht1, hs1, hr1⟩ := State.clock_stage hw (by simp [hs]) (by omega)
  rw [hs] at hs1
  obtain ⟨hw2, ht2, hs2, hr2⟩ := State.clock_stage hw1 (by simp [hs1, Stage.next]) (by omega)
  rw [hs1] at hs2
  obtain ⟨hw3, ht3, hs3, hr3⟩ := State.clock_stage hw2 (by simp [hs2, Stage.next]) (by omega)
  rw [hs2] at hs3
  obtain ⟨hw4, ht4, hs4, hr4⟩ := State.clock_stage hw3 (by simp [hs3, Stage.next]) (by omega)
  rw [hs3] at hs4
  obtain ⟨hw5, ht5, hs5, hr5⟩ := State.clock_stage hw4 (by simp [hs4, Stage.next]) (by omega)
  rw [hs4] at hs5
  obtain ⟨hw6, hs6, hr6, hp6, he6⟩ := State.clock_publish hw5 hs5 (by omega)
  refine ⟨_, steps_succ hw (steps_succ hw1 (steps_succ hw2 (steps_succ hw3 (steps_succ hw4 (steps_succ hw5 rfl))))), hs6, ?_, hp6,
    he6, hw6.queue⟩
  rw [hr6, hr5, hr4, hr3, hr2, hr1]

/-- Settles O4: by induction on the period timer and on the pulse timer, and by the six cycles of an operation. -/
theorem clockRunsAnOperationEachPeriod : Obligations.ClockRunsAnOperationEachPeriod :=
  ⟨fun n s hq hr hs ht => steps_to_boundary n s ⟨hq, hr⟩ hs ht, fun _ hq hr hs ht => steps_of_operation ⟨hq, hr⟩ hs ht,
    fun n s hq hr hs hp he ht => steps_to_pulse_end n s ⟨hq, hr⟩ hs hp he ht⟩

end Sys2Proof.Machine
end

section
/-! SUPPORT. Frames: their bits and bytes, the checks of a completed frame, admission, and what the PIU itself answers (chapter 10). -/

namespace Sys2Proof

/-! ### Bits and bytes (R175, R178, R186) -/

/-- A bit of a byte's bits, most significant bit first. -/
theorem byteBits_getD (b : Byte) {i : Nat} (h : i < 8) : (byteBits b).getD i false = b.getLsbD (7 - i) := by
  interval_cases i <;> rfl

/-- A bit of a list of bytes: none beyond them. -/
theorem bytesBits_getD (l : List Byte) (i : Nat) : (bytesBits l).getD i false = (l.getD (i / 8) 0).getLsbD (7 - i % 8) := by
  induction l generalizing i with
  | nil => simp
  | cons b l ih =>
    rw [bytesBits_cons]
    by_cases hi : i < 8
    · rw [List.getD_append _ _ _ _ (by simpa using hi), byteBits_getD b hi, Nat.div_eq_of_lt hi, Nat.mod_eq_of_lt hi]
      rfl
    · rw [List.getD_append_right _ _ _ _ (by simpa using hi), byteBits_length, ih,
        show i / 8 = (i - 8) / 8 + 1 by omega, show (i - 8) % 8 = i % 8 by omega]
      rfl

/-- Reading a list entry by entry, with a default beyond its end. -/
theorem map_range_getD {α : Type} (l : List α) (d : α) (n : Nat) :
    (List.range n).map (fun i => l.getD i d) = l.take n ++ List.replicate (n - l.length) d := by
  apply List.ext_getElem
  · simp; omega
  · intro i h1 h2
    simp only [List.length_map, List.length_range] at h1
    simp only [List.getElem_map, List.getElem_range, List.getElem_append, List.length_take, List.getElem_take,
      List.getElem_replicate]
    split
    · rw [List.getD_eq_getElem _ _ (by omega)]
    · rw [List.getD_eq_default _ _ (by omega)]

theorem foldl_range_getD {α β : Type} (f : β → α → β) (b : β) (l : List α) (d : α) :
    (List.range l.length).foldl (fun x i => f x (l.getD i d)) b = l.foldl f b := by
  have h := map_range_getD l d l.length
  rw [Nat.sub_self, List.replicate_zero, List.append_nil, List.take_length] at h
  rw [← List.foldl_map (f := fun i => l.getD i d) (g := f), h]

/-- The two bytes of a word make it again. -/
theorem wordBytes_join (w : Word) : w.extractLsb' 8 8 ++ w.extractLsb' 0 8 = w := by
  apply BitVec.eq_of_getLsbD_eq
  intro i hi
  simp only [BitVec.getLsbD_append, BitVec.getLsbD_extractLsb']
  by_cases h : i < 8
  · simp [h]
  · simp only [h, decide_false, Bool.false_and]
    rw [show 8 + (i - 8) = i by omega]
    simp [show i - 8 < 8 by omega]

theorem wordAt_bytesBits {l : List Byte} {n : Nat} {w : Word} (h : n + 1 < l.length) (hi : l[n] = w.extractLsb' 8 8)
    (lo : l[n + 1] = w.extractLsb' 0 8) : wordAt (bytesBits l) n = w := by
  have h1 := byteAt_bytesBits l [] n (by omega)
  have h2 := byteAt_bytesBits l [] (n + 1) h
  rw [List.append_nil] at h1 h2
  rw [wordAt, h1, h2, hi, lo, wordBytes_join]

/-! ### The checks of a completed frame (R176 to R179) -/

/-- Ten bytes before the last are what check 3 computes the CRC of. -/
theorem map_byteAt_bytesBits {body : List Byte} (h : body.length = 10) (last : Byte) :
    (List.range 10).map (byteAt (bytesBits (body ++ [last]))) = body := by
  apply List.ext_getElem
  · simp [h]
  · intro i h1 h2
    have hat := byteAt_bytesBits (body ++ [last]) [] i (by simp; omega)
    rw [List.append_nil] at hat
    rw [List.getElem_map, List.getElem_range, hat, List.getElem_append_left h2]

theorem byteAt_last {body : List Byte} (h : body.length = 10) (last : Byte) : byteAt (bytesBits (body ++ [last])) 10 = last := by
  have hat := byteAt_bytesBits (body ++ [last]) [] 10 (by simp [h])
  rw [List.append_nil] at hat
  rw [hat, List.getElem_append_right (by omega)]
  simp [h]

theorem byteAt_body {body : List Byte} (h : body.length = 10) (last : Byte) {i : Nat} (hi : i < 10) :
    byteAt (bytesBits (body ++ [last])) i = body.getD i 0 := by
  have hat := byteAt_bytesBits (body ++ [last]) [] i (by simp; omega)
  rw [List.append_nil] at hat
  rw [hat, List.getElem_append_left (by omega), List.getD_eq_getElem _ _ (by omega)]

/-- Check 2 of R176. -/
theorem checkFrame_of_length {bits : List Bool} (h : bits.length ≠ 88) : checkFrame bits = .lengthError := if_neg h

section
variable {body : List Byte} (h : body.length = 10)
include h

/-- Check 3 of R176. -/
theorem checkFrame_of_crc {last : Byte} (hl : last ≠ crc8 body) : checkFrame (bytesBits (body ++ [last])) = .crcError := by
  unfold checkFrame
  rw [if_pos (by simp [h]), byteAt_last h, map_byteAt_bytesBits h, if_neg hl]

/-- Check 4 of R176. -/
theorem checkFrame_of_unknown (hk : ∀ k : FrameKind, body.getD 0 0 ≠ k.code) :
    checkFrame (bytesBits (body ++ [crc8 body])) = .unknownKind := by
  have hnone : kindOfCode (body.getD 0 0) = none := by
    rw [kindOfCode, List.find?_eq_none]
    intro k _ hc
    exact hk k (beq_iff_eq.mp (by simpa using hc)).symm
  unfold checkFrame
  rw [if_pos (by simp [h]), byteAt_last h, map_byteAt_bytesBits h, if_pos rfl, byteAt_body h _ (by decide), hnone]

theorem checkFrame_of_kind {k : FrameKind} (hk : body.getD 0 0 = k.code) :
    checkFrame (bytesBits (body ++ [crc8 body])) = .good k (byteAt (bytesBits (body ++ [crc8 body])) 1)
      ⟨wordAt (bytesBits (body ++ [crc8 body])) 2, wordAt (bytesBits (body ++ [crc8 body])) 4,
        wordAt (bytesBits (body ++ [crc8 body])) 6, wordAt (bytesBits (body ++ [crc8 body])) 8⟩ := by
  have hsome : kindOfCode (body.getD 0 0) = some k := by rw [hk, kindOfCode_code]
  unfold checkFrame
  rw [if_pos (by simp [h]), byteAt_last h, map_byteAt_bytesBits h, if_pos rfl, byteAt_body h _ (by decide), hsome]

end

/-- The bits of a request are read back as that request (R187, R188). -/
theorem checkFrame_requestBits (k : FrameKind) (tag : Byte) (w : Words) : checkFrame (requestBits k tag w) = .good k tag w := by
  have hcheck := checkFrame_of_kind (body := [k.code, tag] ++ wordsBytes w) (k := k) rfl rfl
  have htag : byteAt (bytesBits (frameBytes k.code tag w)) 1 = tag := byteAt_body rfl _ (by decide)
  have h0 : wordAt (bytesBits (frameBytes k.code tag w)) 2 = w.w0 := wordAt_bytesBits (by simp) rfl rfl
  have h1 : wordAt (bytesBits (frameBytes k.code tag w)) 4 = w.w1 := wordAt_bytesBits (by simp) rfl rfl
  have h2 : wordAt (bytesBits (frameBytes k.code tag w)) 6 = w.w2 := wordAt_bytesBits (by simp) rfl rfl
  have h3 : wordAt (bytesBits (frameBytes k.code tag w)) 8 = w.w3 := wordAt_bytesBits (by simp) rfl rfl
  unfold frameBytes at htag h0 h1 h2 h3
  rw [htag, h0, h1, h2, h3] at hcheck
  exact hcheck

/-- The tag of a refusal is byte 1 where it arrived whole (R176). -/
theorem refusalTag_refusedBits (bytes : List Byte) {extra : List Bool} (h : extra.length < 8) :
    refusalTag (refusedBits bytes extra) = bytes.getD 1 0 := by
  unfold refusalTag refusedBits
  by_cases hl : 1 < bytes.length
  · rw [if_pos (by simp; omega), byteAt_bytesBits bytes extra 1 hl, List.getD_eq_getElem _ _ hl]
  · rw [if_neg (by simp; omega), List.getD_eq_default _ _ (by omega)]

end Sys2Proof

namespace Sys2Proof.Machine

/-! ### Answers that the PIU forms itself (R176, R179, R182) -/

/-- A frame that has ended, and whose answer is formed with the ports as its end left them. -/
theorem frameDone_answer {p : PortId} {bits : List Bool} {s t : State} (h : t.ports = (s.frameEnds p bits).ports) (r : Response) :
    FrameDone p bits r (s.ports.get p).page s (t.answer p r) := by
  refine ⟨?_, fun q hq => ?_⟩
  · simp [h]
  · simp [h, hq]

section
variable {p : PortId} {s : State}

theorem State.rawFrame_live (h : s.Live p) (bits : List Bool) : s.rawFrame p bits = (s.frameEnds p bits).complete p bits :=
  State.pselRises_live h _

theorem State.frameEnds_disabled (p : PortId) (bits : List Bool) (s : State) :
    ((s.frameEnds p bits).ports.get p).disabled = (s.ports.get p).disabled := (State.frameEnds_alike p bits s p).2

theorem State.frameEnds_role (p : PortId) (bits : List Bool) (s : State) :
    ((s.frameEnds p bits).ports.get p).role = (s.ports.get p).role := (State.frameEnds_alike p bits s p).1

/-- Check 1 of R176 on a frame of any bits. -/
theorem State.rawFrame_disabled (h : s.Live p) (hd : (s.ports.get p).disabled = true) (bits : List Bool) :
    s.rawFrame p bits = (s.frameEnds p bits).answer p ⟨.portDisabled, refusalTag bits, zeroWords⟩ := by
  rw [State.rawFrame_live h]
  exact if_pos ((State.frameEnds_disabled p bits s).trans hd)

theorem State.frameEnds_not_disabled (hd : s.Enabled p) (bits : List Bool) :
    ¬ ((s.frameEnds p bits).ports.get p).disabled = true := by
  rw [State.frameEnds_disabled]
  exact Bool.eq_false_iff.mp hd

/-- Check 2 of R176. -/
theorem State.rawFrame_lengthError (h : s.Live p) (hd : s.Enabled p) {bits : List Bool} (hc : checkFrame bits = .lengthError) :
    s.rawFrame p bits =
      ((s.frameEnds p bits).raiseOn p .frameError).answer p ⟨.lengthError, refusalTag bits, zeroWords⟩ := by
  rw [State.rawFrame_live h, State.complete, if_neg (State.frameEnds_not_disabled hd bits), hc]

/-- Check 3 of R176. -/
theorem State.rawFrame_crcError (h : s.Live p) (hd : s.Enabled p) {bits : List Bool} (hc : checkFrame bits = .crcError) :
    s.rawFrame p bits = ((s.frameEnds p bits).raiseOn p .frameError).answer p ⟨.crcError, refusalTag bits, zeroWords⟩ := by
  rw [State.rawFrame_live h, State.complete, if_neg (State.frameEnds_not_disabled hd bits), hc]

/-- Check 4 of R176. -/
theorem State.rawFrame_unknownKind (h : s.Live p) (hd : s.Enabled p) {bits : List Bool} (hc : checkFrame bits = .unknownKind) :
    s.rawFrame p bits = (s.frameEnds p bits).answer p ⟨.unknownKind, refusalTag bits, zeroWords⟩ := by
  rw [State.rawFrame_live h, State.complete, if_neg (State.frameEnds_not_disabled hd bits), hc]

/-- Check 1 of R176 on a good frame. -/
theorem State.goodFrame_disabled (h : s.Live p) (hd : (s.ports.get p).disabled = true) (k : FrameKind) (tag : Byte) (w : Words) :
    s.goodFrame k p tag w = (s.frameEnds p (requestBits k tag w)).answer p ⟨.portDisabled, tag, zeroWords⟩ := by
  rw [State.goodFrame_live h]
  exact if_pos ((State.frameEnds_disabled p _ s).trans hd)

/-- Check 5 of R176. -/
theorem State.goodFrame_mismatch (h : s.Live p) (hd : s.Enabled p) {k : FrameKind} {r : Role} (hk : boundRole k = some r)
    (hr : (s.ports.get p).role ≠ r) (tag : Byte) (w : Words) :
    s.goodFrame k p tag w =
      ((s.frameEnds p (requestBits k tag w)).raiseOn p .roleMismatch).answer p ⟨.roleMismatch, tag, zeroWords⟩ := by
  rw [State.goodFrame_live h]
  unfold State.admitFrame
  rw [if_neg (State.frameEnds_not_disabled hd _), if_neg]
  rw [State.frameEnds_role, roleAdmits_iff]
  exact fun hall => hr (hall r hk)

end

/-- A frame refused with an answer and these notices on its own port, and nothing else changed. -/
theorem refused_of_answer {p : PortId} {bits : List Bool} {s t : State} {result : ResultCode} {tag : Byte} {ks : List NoticeKind}
    (hp : t.ports = (s.frameEnds p bits).ports) (hn : RaisedOn p ks s t) (ht : t = { s with ports := t.ports, ntc := t.ntc }) :
    FrameDone p bits ⟨result, tag, zeroWords⟩ (s.ports.get p).page s (t.answer p ⟨result, tag, zeroWords⟩)
      ∧ RaisedOn p ks s (t.answer p ⟨result, tag, zeroWords⟩)
      ∧ t.answer p ⟨result, tag, zeroWords⟩
        = { s with ports := (t.answer p ⟨result, tag, zeroWords⟩).ports, ntc := (t.answer p ⟨result, tag, zeroWords⟩).ntc } := by
  refine ⟨frameDone_answer hp _, hn, ?_⟩
  rw [ht]
  rfl

theorem RaisedOn.refl (p : PortId) (s : State) : RaisedOn p [] s s := ⟨rfl, fun _ _ => rfl⟩

/-- Settles O10: each of the four checks that refuses a frame, in their order. -/
theorem refusedFrameIsAnswered : Obligations.RefusedFrameIsAnswered := by
  intro p bytes extra s hl hwf
  have hextra : extra.length < 8 := by simpa [Instr.wellFormed] using hwf
  have htag := refusalTag_refusedBits bytes hextra
  refine ⟨_, rfl, fun hd => ?_, fun he hlen => ?_, fun he hx body last hb hten hcrc => ?_, fun he hx body hb hten hkind => ?_⟩
  · rw [State.rawFrame_disabled hl hd, htag]
    exact refused_of_answer rfl (RaisedOn.refl p s) rfl
  · have hbits : (refusedBits bytes extra).length ≠ 88 := by
      simp only [refusedBits, List.length_append, bytesBits_length]
      obtain hn | hx := hlen
      · omega
      · have := List.length_pos_iff.mpr hx
        omega
    rw [State.rawFrame_lengthError hl he (checkFrame_of_length hbits), htag]
    exact refused_of_answer rfl (State.raiseOn_raisedOn p .frameError s) rfl
  · have hcheck : checkFrame (refusedBits bytes extra) = .crcError := by
      rw [refusedBits, hx, hb, List.append_nil]
      exact checkFrame_of_crc hten hcrc
    rw [State.rawFrame_crcError hl he hcheck, htag]
    exact refused_of_answer rfl (State.raiseOn_raisedOn p .frameError s) rfl
  · have hcheck : checkFrame (refusedBits bytes extra) = .unknownKind := by
      rw [refusedBits, hx, hb, List.append_nil]
      exact checkFrame_of_unknown hten hkind
    rw [State.rawFrame_unknownKind hl he hcheck, htag]
    exact refused_of_answer rfl (RaisedOn.refl p s) rfl

/-- The completion of a request's bits takes that request through checks 1 and 5 (R176). -/
theorem State.complete_requestBits (k : FrameKind) (p : PortId) (tag : Byte) (w : Words) (s : State) :
    s.complete p (requestBits k tag w) = s.admitFrame k p tag w := by
  have htag : refusalTag (requestBits k tag w) = tag := by
    have h := refusalTag_refusedBits (frameBytes k.code tag w) (extra := []) (by decide)
    rwa [refusedBits, List.append_nil] at h
  by_cases hd : (s.ports.get p).disabled = true
  · rw [State.complete, if_pos hd, htag, State.admitFrame, if_pos hd]
  · rw [State.complete, if_neg hd, checkFrame_requestBits]

/-- Settles O11: the bytes are read back, so the raw frame is the request. -/
theorem requestBytesAreTheirRequest : Obligations.RequestBytesAreTheirRequest := by
  intro k tag w
  refine ⟨checkFrame_requestBits k tag w, fun p s => ?_⟩
  have hbits : refusedBits (frameBytes k.code tag w) [] = requestBits k tag w := List.append_nil _
  rw [exec_command]
  show Host.Outcome.next (s.rawFrame p (refusedBits (frameBytes k.code tag w) [])) = _
  rw [hbits]
  unfold State.rawFrame State.goodFrame
  simp only [State.complete_requestBits]

theorem boundRole_iff (k : FrameKind) (r : Role) : boundRole k = some r ↔ k = reportKind r ∨ k = declareKind r := by
  cases k <;> cases r <;> decide

/-- Settles O12: checks 1 and 5 of R176 on a good frame. -/
theorem admissionByPortAndRole : Obligations.AdmissionByPortAndRole := by
  refine ⟨boundRole_iff, fun k p tag w s hl => ⟨fun hd => ?_, fun he r hk hr => ?_⟩⟩
  · refine ⟨_, exec_command k p tag w s, ?_⟩
    rw [State.goodFrame_disabled hl hd]
    exact ⟨frameDone_answer rfl _, rfl⟩
  · refine ⟨_, exec_command k p tag w s, ?_⟩
    rw [State.goodFrame_mismatch hl he hk hr]
    exact refused_of_answer rfl (State.raiseOn_raisedOn p .roleMismatch s) rfl

/-! ### The bits that a frame shifts out (R175, R181) -/

theorem Request.Effect.port {p : PortId} {s t : State} (h : Request.Effect p s t) :
    ∃ page, t.ports.get p = { s.ports.get p with page := page } := by
  cases h with
  | leaves => exact ⟨_, rfl⟩
  | report r w => exact ⟨(s.ports.get p).page, by simp⟩
  | declare r w => exact ⟨(s.ports.get p).page, by simp⟩
  | claim c => exact ⟨_, rfl⟩
  | page n => exact ⟨s.pageRecord p n, State.refreshPage_ports_get p n s⟩
  | notices n => exact ⟨_, rfl⟩

/-- An answer formed on a state whose port differs in its page snapshot alone. -/
theorem State.answer_port {p : PortId} {s t : State} (h : ∃ page, t.ports.get p = { s.ports.get p with page := page }) (r : Response) :
    ∃ answer page, (t.answer p r).ports.get p = { s.ports.get p with held := answer, page := page } := by
  obtain ⟨page, hp⟩ := h
  exact ⟨r, page, by simp [hp]⟩

/-- Completion changes of its port the held response and the page snapshot at most. -/
theorem State.admitFrame_port (k : FrameKind) (p : PortId) (tag : Byte) (w : Words) (s : State) :
    ∃ answer page, (s.admitFrame k p tag w).ports.get p = { s.ports.get p with held := answer, page := page } := by
  unfold State.admitFrame
  dsimp only
  split_ifs
  · exact State.answer_port ⟨_, rfl⟩ _
  · exact State.answer_port (serve_effect k p w s).port _
  · exact State.answer_port ⟨_, rfl⟩ _

theorem State.complete_port (p : PortId) (bits : List Bool) (s : State) :
    ∃ answer page, (s.complete p bits).ports.get p = { s.ports.get p with held := answer, page := page } := by
  unfold State.complete
  split_ifs
  · exact State.answer_port ⟨_, rfl⟩ _
  · split
    · exact State.answer_port ⟨_, rfl⟩ _
    · exact State.answer_port ⟨_, rfl⟩ _
    · exact State.answer_port ⟨_, rfl⟩ _
    · exact State.admitFrame_port _ p _ _ s

/-- A completed frame has shifted out one bit of the response held before it for each of its clocks. -/
theorem sent_of_frame {c : Instr} {p : PortId} {s t : State} (hc : port c = some p) (hbegin : c ≠ .frameBegin p)
    (hend : c ≠ .resetPselWaitEnd p) (hl : s.Live p) (he : exec c s = .next t) :
    (t.ports.get p).sent = shiftedOut (s.ports.get p).held (t.ports.get p).rxCount := by
  obtain rfl | rfl | ⟨b, x, rfl⟩ | ⟨k, tag, w, rfl⟩ := forms_of_port c p hc
  · exact absurd rfl hend
  · exact absurd rfl hbegin
  · cases he
    rw [State.rawFrame_live hl]
    obtain ⟨answer, page, hp⟩ := State.complete_port p (refusedBits b x) (s.frameEnds p (refusedBits b x))
    rw [hp]
    simp
  · rw [exec_command] at he
    cases he
    rw [State.goodFrame_live hl]
    obtain ⟨answer, page, hp⟩ := State.admitFrame_port k p tag w (s.frameEnds p (requestBits k tag w))
    rw [hp]
    simp

/-- What is shifted out of a response of eleven bytes, bit by bit. -/
theorem shiftedOut_eq (r : Response) (n : Nat) : shiftedOut r n =
    (List.range n).map (fun i => ((frameBytes r.result.code r.tag r.words).getD (i / 8) 0).getLsbD (7 - i % 8)) := by
  have h := map_range_getD (bytesBits (frameBytes r.result.code r.tag r.words)) false n
  simp only [bytesBits_getD, bytesBits_length, frameBytes_length] at h
  exact h.symm

/-- The CRC-8 of ten bytes, bit by bit (R178). -/
theorem crc8_eq {body : List Byte} (h : body.length = 10) : crc8 body =
    ~~~ ((List.range 80).foldl (fun (x : Byte) i =>
      if x.getLsbD 7 = (body.getD (i / 8) 0).getLsbD (7 - i % 8) then x <<< 1 else (x <<< 1) ^^^ 0x1D) 0xFF) := by
  have hfold := foldl_range_getD crcStep 0xFF (bytesBits body) false
  rw [bytesBits_length, h] at hfold
  rw [crc8, ← hfold]
  simp only [bytesBits_getD, crcStep, beq_iff_eq]

theorem word_high_byte (w : Word) : w.extractLsb' 8 8 = BitVec.ofNat 8 (w.toNat / 256) := by
  apply BitVec.eq_of_toNat_eq
  simp [BitVec.extractLsb'_toNat, Nat.shiftRight_eq_div_pow]

theorem word_low_byte (w : Word) : w.extractLsb' 0 8 = BitVec.ofNat 8 w.toNat := by
  apply BitVec.eq_of_toNat_eq
  simp [BitVec.extractLsb'_toNat]

theorem wordsBytes_eq (w : Words) : wordsBytes w =
    [BitVec.ofNat 8 (w.w0.toNat / 256), BitVec.ofNat 8 w.w0.toNat, BitVec.ofNat 8 (w.w1.toNat / 256), BitVec.ofNat 8 w.w1.toNat,
      BitVec.ofNat 8 (w.w2.toNat / 256), BitVec.ofNat 8 w.w2.toNat, BitVec.ofNat 8 (w.w3.toNat / 256), BitVec.ofNat 8 w.w3.toNat] := by
  simp only [wordsBytes, wordBytes, word_high_byte, word_low_byte, List.cons_append, List.nil_append]

/-- Settles O9: the bits of a response are those of its eleven bytes, and the falling PSEL shows the first of them. -/
theorem frameBeginStartsTheHeldResponse : Obligations.FrameBeginStartsTheHeldResponse := by
  refine ⟨fun p s hl => ?_, fun c p s t hc hbegin hend hl he => ?_, fun e he => ?_⟩
  · obtain ⟨hr, hw⟩ := hl
    have hfalls : s.pselFalls p = s.setPort p { s.ports.get p with inFrame := true, rx := [], rxCount := 0, txPos := 0 } :=
      if_pos ⟨hr, hw⟩
    refine ⟨_, congrArg Host.Outcome.next hfalls, rfl, by simp, fun q hq => by simp [hq], ?_⟩
    simp only [State.miso, State.setPort_ports_get, if_true, State.setPort_rstN, hr, Bool.and_self]
    rfl
  · intro r hi lo body bit crc
    have hbytes : frameBytes r.result.code r.tag r.words = body ++ [crc] := by
      have hbody : [r.result.code, r.tag] ++ wordsBytes r.words = body := by rw [wordsBytes_eq]; rfl
      unfold frameBytes
      rw [hbody]
      exact congrArg (fun x => body ++ [x]) (crc8_eq rfl)
    rw [sent_of_frame hc hbegin hend hl he, shiftedOut_eq, hbytes]
  · fin_cases he <;> rfl

end Sys2Proof.Machine
end

section
/-! SUPPORT. Identification and status reads (R183, R184, R191), and the DECLARE that is refused (R26). -/

namespace Sys2Proof.Machine

/-! ### The strap map (R183) -/

theorem Port.strapNibble_lt (q : Port) : q.strapNibble < 8 := by
  have hrole := roleCode_lt q.role
  have hdisabled := bitNat_lt q.disabled
  unfold Port.strapNibble
  omega

theorem strapMap_congr {g h : PerPort Port} (ha : Alike g h) : strapMap g = strapMap h := by
  have hnibble (p : PortId) : (g.get p).strapNibble = (h.get p).strapNibble := by
    obtain ⟨hrole, hdisabled⟩ := ha p
    unfold Port.strapNibble
    rw [hrole, hdisabled]
  have h0 := hnibble .p0
  have h1 := hnibble .p1
  have h2 := hnibble .p2
  have h3 := hnibble .p3
  simp only [PerPort.get] at h0 h1 h2 h3
  unfold strapMap
  rw [h0, h1, h2, h3]

/-- The strap map holds each port's nibble. -/
theorem strapMap_nibble (t : PerPort Port) (p : PortId) : (strapMap t).toNat / 16 ^ portNumber p % 16 = (t.get p).strapNibble := by
  have h0 := t.p0.strapNibble_lt
  have h1 := t.p1.strapNibble_lt
  have h2 := t.p2.strapNibble_lt
  have h3 := t.p3.strapNibble_lt
  have hnum : (strapMap t).toNat
      = t.p0.strapNibble + 16 * t.p1.strapNibble + 256 * t.p2.strapNibble + 4096 * t.p3.strapNibble := by
    rw [strapMap, BitVec.toNat_ofNat, Nat.mod_eq_of_lt (by omega)]
  rw [hnum]
  cases p <;> simp only [portNumber, PerPort.get] <;> omega

/-- A nibble's role and disabled flag (R183). -/
theorem strapMap_packs (t : PerPort Port) (p : PortId) :
    (strapMap t).toNat / 16 ^ portNumber p % 4 = (t.get p).role.code
      ∧ (strapMap t).getLsbD (4 * portNumber p + 2) = (t.get p).disabled
      ∧ (strapMap t).getLsbD (4 * portNumber p + 3) = false := by
  have hnibble := strapMap_nibble t p
  have hrole := roleCode_lt (t.get p).role
  have hdisabled := bitNat_lt (t.get p).disabled
  have hpow (i : Nat) : (strapMap t).toNat / 2 ^ (4 * portNumber p + i) = (strapMap t).toNat / 16 ^ portNumber p / 2 ^ i := by
    rw [Nat.pow_add, Nat.pow_mul, Nat.div_div_eq_div_mul]
  unfold Port.strapNibble at hnibble
  refine ⟨by omega, getLsbD_eq_of_div_mod ?_, getLsbD_eq_of_div_mod ?_⟩
  · rw [hpow]; omega
  · rw [hpow]; show _ = 0; omega

/-- Settles O14: both requests leave the state, and the strap map is read off its nibbles. -/
theorem nopAndIdentify : Obligations.NopAndIdentify := by
  intro p tag w s
  refine ⟨fun h => ⟨_, exec_command .nop p tag w s, State.goodFrame_leaves h rfl⟩, fun h => ?_⟩
  obtain ⟨hans, hframe⟩ := State.goodFrame_leaves (tag := tag) (w := w) h rfl
  rw [strapMap_congr (State.frameEnds_alike p (requestBits .identify tag w) s)] at hans
  exact ⟨_, _, exec_command .identify p tag w s, hans, hframe, strapMap_packs s.ports⟩

/-! ### Status reads (R184, R191) -/

section
variable (s : State) {sel : Word}

theorem word_of_toNat {n : Nat} (h : sel.toNat = n) : sel = BitVec.ofNat 16 n := by
  rw [← h, BitVec.ofNat_toNat, BitVec.setWidth_eq]

theorem State.status_source {r : Role} (h : sel.toNat = r.code) : s.status sel = some (s.sourceStatus r) := by
  rw [word_of_toNat h]
  cases r <;> rfl

theorem State.status_seq (h : sel.toNat = 4) : s.status sel = some s.seqStatus := by rw [word_of_toNat h]; rfl

theorem State.status_speed (h : sel.toNat = 5) : s.status sel = some s.speedStatus := by rw [word_of_toNat h]; rfl

theorem State.status_cal (h : sel.toNat = 6) : s.status sel = some s.calStatus := by rw [word_of_toNat h]; rfl

theorem State.status_envelope {r : Role} (h : sel.toNat = 7 + r.code) : s.status sel = some (s.env.get r).words := by
  rw [word_of_toNat h]
  cases r <;> rfl

theorem State.status_of_gt (h : 10 < sel.toNat) : s.status sel = none := by
  unfold State.status
  iterate 11 rw [if_neg (by bv_omega)]

/-- The numbers below 4 are the roles'. -/
theorem exists_role {n : Nat} (h : n < 4) : ∃ r : Role, n = r.code := by
  obtain rfl | rfl | rfl | rfl : n = 0 ∨ n = 1 ∨ n = 2 ∨ n = 3 := by omega
  exacts [⟨.vehicle, rfl⟩, ⟨.engine, rfl⟩, ⟨.motor, rfl⟩, ⟨.battery, rfl⟩]

theorem State.status_of_le (h : sel.toNat ≤ 10) : ∃ v, s.status sel = some v := by
  obtain hr | hseq | hspeed | hcal | he : sel.toNat < 4 ∨ sel.toNat = 4 ∨ sel.toNat = 5 ∨ sel.toNat = 6 ∨ 7 ≤ sel.toNat := by omega
  · obtain ⟨r, hr⟩ := exists_role hr
    exact ⟨_, s.status_source hr⟩
  · exact ⟨_, s.status_seq hseq⟩
  · exact ⟨_, s.status_speed hspeed⟩
  · exact ⟨_, s.status_cal hcal⟩
  · obtain ⟨r, hr⟩ := exists_role (n := sel.toNat - 7) (by omega)
    exact ⟨_, s.status_envelope (r := r) (by omega)⟩

/-- The status reads of the ports the roles alone. -/
theorem State.status_withPorts {g : PerPort Port} (h : Alike g s.ports) (sel : Word) : (s.withPorts g).status sel = s.status sel := by
  have hcal := State.calStatus_withPorts h
  unfold State.status
  rw [hcal]
  rfl

/-! ### The layouts (R191) -/

theorem Freshness.code_lt (f : Freshness) : f.code < 4 := by cases f <;> decide

theorem LastReason.code_lt (r : LastReason) : r.code < 256 := by cases r <;> decide

theorem Check.code_eq_bitNat (c : Check) : c.code = bitNat (decide (c = .implausible)) := by cases c <;> rfl

/-- The first word of a source's status. -/
theorem State.sourceStatus_packs {r : Role} (h : (s.src.get r).requal ≤ 2) :
    (s.sourceStatus r).w0.toNat % 4 = (s.src.get r).state.code ∧ (s.sourceStatus r).w0.toNat / 4 % 4 = (s.src.get r).requal
      ∧ (s.sourceStatus r).w0.getLsbD 4 = (s.src.get r).clipped ∧ (s.sourceStatus r).w0.getLsbD 5 = (s.src.get r).counted
      ∧ (s.sourceStatus r).w0.toNat < 64 := by
  have hstate := (s.src.get r).state.code_lt
  have hclipped := bitNat_lt (s.src.get r).clipped
  have hcounted := bitNat_lt (s.src.get r).counted
  have hnum : (s.sourceStatus r).w0.toNat = (s.src.get r).state.code + 4 * (s.src.get r).requal
      + 16 * bitNat (s.src.get r).clipped + 32 * bitNat (s.src.get r).counted := by
    rw [State.sourceStatus, wordN, BitVec.toNat_ofNat, Nat.mod_eq_of_lt (by omega)]
  refine ⟨by omega, by omega, getLsbD_eq_of_div_mod (by omega), getLsbD_eq_of_div_mod (by omega), by omega⟩

theorem Seq.timerValue_eq (q : Seq) : q.timerValue =
    if q.state ∈ [.crankWait, .speedSync, .clutchWait, .clutchRelease, .offWait] then q.timer
    else if q.avail = .cooling then q.coolOff else 0 := by
  have hwaits : q.state ∈ [SeqState.crankWait, .speedSync, .clutchWait, .clutchRelease, .offWait] ↔ q.state.waits = true := by
    cases q.state <;> decide
  simp only [Seq.timerValue, hwaits]

/-- The sequencer's status, with an attempt count that a byte holds. -/
theorem State.seqStatus_packs (h : s.seq.attempts ≤ 255) :
    s.seqStatus.w0.toNat = s.seq.state.code ∧ s.seqStatus.w1.toNat = s.seq.avail.code
      ∧ s.seqStatus.w2.toNat / 256 = s.seq.attempts ∧ s.seqStatus.w2.toNat % 256 = s.seq.lastReason.code := by
  have hstate := s.seq.state.code_lt
  have havail := s.seq.avail.code_lt
  have hreason := s.seq.lastReason.code_lt
  simp only [State.seqStatus, wordN, BitVec.toNat_ofNat]
  omega

/-- The speed unit's flags. -/
theorem State.speedStatus_packs :
    s.speedStatus.w2.getLsbD 0 = decide (s.spd.check = .implausible) ∧ s.speedStatus.w2.getLsbD 1 = s.spd.absent
      ∧ s.speedStatus.w2.toNat < 4 := by
  have hcheck := bitNat_lt (decide (s.spd.check = .implausible))
  have habsent := bitNat_lt s.spd.absent
  have hnum : s.speedStatus.w2.toNat = bitNat (decide (s.spd.check = .implausible)) + 2 * bitNat s.spd.absent := by
    rw [State.speedStatus, Check.code_eq_bitNat, wordN, BitVec.toNat_ofNat, Nat.mod_eq_of_lt (by omega)]
  refine ⟨getLsbD_eq_of_div_mod (by omega), getLsbD_eq_of_div_mod (by omega), by omega⟩

theorem Spd.runCount_eq (u : Spd) : u.runCount = if u.check = .plausible then u.disagree else u.agree := by
  unfold Spd.runCount
  cases u.check <;> rfl

end

/-- A status read is answered with what its selector names on the state before it (R184; log 25). -/
theorem State.goodFrame_readStatus {p : PortId} {s : State} (h : s.Admits .readStatus p) (tag : Byte) (w : Words) :
    Answered .readStatus p tag w (if w.w0.toNat ≤ 10 then .ok else .badArgument) ((s.status w.w0).getD zeroWords) s
        (s.goodFrame .readStatus p tag w)
      ∧ s.goodFrame .readStatus p tag w = { s with ports := (s.goodFrame .readStatus p tag w).ports } := by
  apply State.goodFrame_leaves h
  have hstatus := s.status_withPorts (State.frameEnds_alike p (requestBits .readStatus tag w) s) w.w0
  rw [← State.frameEnds_eq] at hstatus
  unfold serve serveReadStatus
  dsimp only
  rw [hstatus]
  split_ifs with hle
  · obtain ⟨v, hv⟩ := s.status_of_le hle
    rw [hv]
    rfl
  · rw [s.status_of_gt (by omega)]
    rfl

/-- Settles O15: each selector's words, laid out item by item. -/
theorem readStatusLayouts : Obligations.ReadStatusLayouts := by
  intro p tag w s h
  obtain ⟨hans, hframe⟩ := State.goodFrame_readStatus h tag w
  refine ⟨_, _, _, exec_command .readStatus p tag w s, hans, hframe, ?_, fun hgt => ?_, fun r hr hmax => ?_, fun hsel hmax => ?_,
    fun hsel => ?_, fun hsel => ?_, fun r hr => ?_⟩
  · split_ifs with hle <;> simp [hle]
  · rw [if_neg (by omega), s.status_of_gt hgt]
    exact ⟨rfl, rfl⟩
  · rw [s.status_source hr]
    obtain ⟨hstate, hrequal, hclipped, hcounted, hlt⟩ := s.sourceStatus_packs hmax
    exact ⟨hstate, hrequal, hclipped, hcounted, hlt, rfl, rfl, rfl⟩
  · rw [s.status_seq hsel]
    obtain ⟨hstate, havail, hattempts, hreason⟩ := s.seqStatus_packs hmax
    exact ⟨hstate, havail, hattempts, hreason, congrArg wordN s.seq.timerValue_eq⟩
  · rw [s.status_speed hsel]
    obtain ⟨hcheck, habsent, hlt⟩ := s.speedStatus_packs
    exact ⟨rfl, rfl, hcheck, habsent, hlt, congrArg wordN s.spd.runCount_eq⟩
  · rw [s.status_cal hsel]
    exact s.calStatus_packs
  · rw [s.status_envelope hr]
    rfl

/-! ### A DECLARE in another mode (R26) -/

theorem declareOpen_iff (m : Mode) : declareOpen m = true ↔ m = .init ∨ m = .parked := by cases m <;> decide

/-- Settles O25. -/
theorem declareRefusedInOtherModes : Obligations.DeclareRefusedInOtherModes := by
  intro r p tag w s h hinit hparked
  have hclosed : declareOpen s.record.mode = false := by
    rw [Bool.eq_false_iff, Ne, declareOpen_iff]
    tauto
  have hans := State.goodFrame_declare_answered r h tag w
  have hframe := State.goodFrame_declare r h tag w
  rw [serveDeclare_of_closed hclosed] at hans hframe
  refine ⟨_, exec_command _ p tag w s, ?_, hans⟩
  rw [hframe]
  rfl

end Sys2Proof.Machine
end

section
/-! SUPPORT. Reports and DECLAREs: what their words are read as, and what a taken one leaves (R3 to R10, R24 to R32). -/

namespace Sys2Proof.Machine

/-! ### Fields of a report (R4, R5) -/

theorem wireField_eq {lo hi : Int} (h : lo ≤ hi) (w : Word) : (wireField lo hi w).1 = max lo (min hi w.toInt) := clamp_eq h _

theorem wireField_changed (lo hi : Int) (w : Word) : (wireField lo hi w).2 = true ↔ (wireField lo hi w).1 ≠ w.toInt :=
  decide_eq_true_iff

section
variable {lo hi clipLo clipHi : Int} (hlo : lo ≤ clipLo) (hclip : clipLo ≤ clipHi) (hhi : clipHi ≤ hi)
include hlo hclip hhi

theorem reportField_eq (w : Word) :
    (reportField lo hi clipLo clipHi w).1 = max clipLo (min clipHi (max lo (min hi w.toInt))) := by
  rw [reportField, clamp_eq hclip, clamp_eq (hlo.trans (hclip.trans hhi))]
  rfl

/-- With the clip range within the wire range, a field was clamped or clipped exactly where it was changed. -/
theorem reportField_changed (w : Word) : (reportField lo hi clipLo clipHi w).2 = true ↔
    (reportField lo hi clipLo clipHi w).1 ≠ w.toInt := by
  have hwire := clamp_eq (hlo.trans (hclip.trans hhi)) (signed w)
  have hstored := clamp_eq hclip (clamp lo hi (signed w))
  have hsigned : signed w = w.toInt := rfl
  simp only [reportField, Bool.or_eq_true, decide_eq_true_eq]
  omega

end

/-! ### Bits of a report's first word (R4) -/

theorem bitNat_getLsbD (w : Word) (i : Nat) : bitNat (w.getLsbD i) = w.toNat / 2 ^ i % 2 := by
  rw [← BitVec.testBit_toNat, Nat.testBit_eq_decide_div_mod_eq]
  have := Nat.mod_two_eq_zero_or_one (w.toNat / 2 ^ i)
  unfold bitNat
  split <;> simp_all

/-- The lowest bits of a word, as a mask takes them. -/
theorem and_mask (w : Word) {n : Nat} (h : n ≤ 16) : w &&& BitVec.ofNat 16 (2 ^ n - 1) = BitVec.ofNat 16 (w.toNat % 2 ^ n) := by
  have hle : 2 ^ n ≤ 2 ^ 16 := Nat.pow_le_pow_right (by decide) h
  have hpos : 0 < 2 ^ n := Nat.two_pow_pos n
  have hlt := Nat.mod_lt w.toNat hpos
  apply BitVec.eq_of_toNat_eq
  rw [BitVec.toNat_and, BitVec.toNat_ofNat, BitVec.toNat_ofNat, Nat.mod_eq_of_lt (a := 2 ^ n - 1) (by omega),
    Nat.mod_eq_of_lt (a := w.toNat % 2 ^ n) (by omega), Nat.and_two_pow_sub_one_eq_mod]

theorem engineStateOf_code (w : Word) : (engineStateOf w).code = w.toNat % 4 := by
  have h0 : bitNat (w.getLsbD 0) = w.toNat / 1 % 2 := bitNat_getLsbD w 0
  have h1 : bitNat (w.getLsbD 1) = w.toNat / 2 % 2 := bitNat_getLsbD w 1
  unfold engineStateOf
  cases hb1 : w.getLsbD 1 <;> cases hb0 : w.getLsbD 0 <;> rw [hb1] at h1 <;> rw [hb0] at h0 <;>
    simp only [EngineState.code, bitNat] at * <;> grind

/-- Clutch code 3 reads as SLIPPING and counts as clamped. -/
theorem clutchStateOf_code (w : Word) :
    (clutchStateOf w).1.code = (if w.toNat / 4 % 4 = 3 then 1 else w.toNat / 4 % 4)
      ∧ ((clutchStateOf w).2 = true ↔ w.toNat / 4 % 4 = 3) := by
  have h2 := bitNat_getLsbD w 2
  have h3 := bitNat_getLsbD w 3
  unfold clutchStateOf
  cases hb3 : w.getLsbD 3 <;> cases hb2 : w.getLsbD 2 <;> rw [hb3] at h3 <;> rw [hb2] at h2 <;>
    simp only [ClutchState.code, bitNat] at * <;> grind

/-- The engine's first word echoed: the unassigned bits as 0, clutch code 3 as SLIPPING (R6). -/
theorem engineEcho_eq (w : Word) :
    wordN ((engineStateOf w).code + 4 * (clutchStateOf w).1.code + 16 * bitNat (w.getLsbD 4) + 32 * bitNat (w.getLsbD 5)
      + 64 * bitNat (w.getLsbD 6)) = if w.toNat / 4 % 4 = 3 then w &&& 0x77 else w &&& 0x7F := by
  have hmask : w &&& 0x7F = BitVec.ofNat 16 (w.toNat % 128) := and_mask w (n := 7) (by decide)
  have hmask' : w &&& 0x77 = BitVec.ofNat 16 (w.toNat % 128) &&& 0x77 := by
    rw [← hmask, BitVec.and_assoc]
    rfl
  have hdrop : ∀ n < 128, n / 4 % 4 = 3 →
      BitVec.ofNat 16 (n % 4 + 4 + 16 * (n / 16 % 2) + 32 * (n / 32 % 2) + 64 * (n / 64 % 2)) = BitVec.ofNat 16 n &&& 0x77 := by
    decide
  rw [engineStateOf_code, (clutchStateOf_code w).1, bitNat_getLsbD, bitNat_getLsbD, bitNat_getLsbD, hmask', hmask, wordN]
  split_ifs with h
  · rw [← hdrop _ (Nat.mod_lt _ (by decide)) (by omega)]
    congr 1
    omega
  · congr 1
    omega

/-! ### An accepted report (R6 to R10) -/

section
variable {r : Role} {p : PortId} {s : State} (h : s.Admits (reportKind r) p) (hd : (s.src.get r).state ≠ .undeclared) (tag : Byte)
  (w : Words)
include h hd

/-- The frame of an accepted report leaves what SRC makes of it, and the port with its echo. -/
theorem State.goodFrame_report_taken : s.goodFrame (reportKind r) p tag w =
    { (s.finishSource r).takeReport r w with ports := (s.goodFrame (reportKind r) p tag w).ports } := by
  rw [State.goodFrame_report r h, serveReport_of_declared hd]
  rfl

theorem State.goodFrame_report_held : (s.goodFrame (reportKind r) p tag w).heldVals =
    (storeReport r (s.env.get r) w s.heldVals).held := by
  rw [State.goodFrame_report_taken h hd]
  simp

theorem State.goodFrame_report_echoed : Answered (reportKind r) p tag w
    (if (storeReport r (s.env.get r) w s.heldVals).clamped then .okClamped else .ok)
    (storeReport r (s.env.get r) w s.heldVals).echo s (s.goodFrame (reportKind r) p tag w) := by
  have hans := State.goodFrame_report_answered r h tag w
  rwa [serveReport_of_declared hd] at hans

end

section
variable {f : Nat} {b : Bool} {c : SourceCtl}

@[simp] theorem acceptCtl_clipped : (acceptCtl f b c).1.clipped = b := by
  unfold acceptCtl
  dsimp only
  split <;> first | rfl | (split_ifs <;> rfl)

theorem acceptCtl_of_fresh (h : c.state = .fresh) : acceptCtl f b c = ({ c with fresh := f, clipped := b }, false) := by
  simp [acceptCtl, h]

theorem acceptCtl_of_aged (h : c.state = .aged) :
    acceptCtl f b c = ({ c with state := .fresh, fresh := f, hold := 0, clipped := b }, true) := by simp [acceptCtl, h]

theorem acceptCtl_of_counted (h : c.state = .lapsed) (hc : c.counted = true) :
    acceptCtl f b c = ({ c with fresh := f, clipped := b }, false) := by simp [acceptCtl, h, hc]

theorem acceptCtl_of_first (h : c.state = .lapsed) (hc : c.counted = false) (hq : c.requal < 2) :
    acceptCtl f b c = ({ c with fresh := f, clipped := b, requal := c.requal + 1, counted := true }, false) := by
  simp [acceptCtl, h, hc]
  omega

theorem acceptCtl_of_third (h : c.state = .lapsed) (hc : c.counted = false) (hq : 2 ≤ c.requal) :
    acceptCtl f b c = ({ c with state := .fresh, fresh := f, clipped := b, requal := 0, counted := false }, true) := by
  simp [acceptCtl, h, hc]
  omega

end

theorem State.broadcastIf_eq (b : Bool) (k : NoticeKind) (s : State) :
    s.broadcastIf b k = { s with ntc := (s.broadcastIf b k).ntc } := by cases b <;> rfl

/-- A report that SRC takes changes the held values, the source's record and the notice sets. -/
theorem State.takeReport_eq (r : Role) (w : Words) (s : State) : s.takeReport r w =
    { s with heldVals := (s.takeReport r w).heldVals, src := (s.takeReport r w).src, ntc := (s.takeReport r w).ntc } := by
  rw [State.takeReport_heldVals, State.takeReport_src]
  exact State.broadcastIf_eq _ _ _

/-- Settles O17: the source's record as the five cases of an accepted report leave it. -/
theorem acceptedReportUpdatesItsRecord : Obligations.AcceptedReportUpdatesItsRecord := by
  intro r p tag w s h hd
  have hframe := State.goodFrame_report_taken h hd tag w
  have hechoed := State.goodFrame_report_echoed h hd tag w
  refine ⟨_, exec_command _ p tag w s, ?_⟩
  generalize s.goodFrame (reportKind r) p tag w = t at *
  intro u c d
  have hsrc : t.src = u.src.set r
      (acceptCtl (s.env.get r).window (storeReport r (s.env.get r) w s.heldVals).clamped c).1 := by
    rw [hframe]
    simp [u, c]
  have hget : t.src.get r = (acceptCtl (s.env.get r).window (storeReport r (s.env.get r) w s.heldVals).clamped c).1 := by
    rw [hsrc, PerRole.get_set_self]
  have hclipped : (t.src.get r).clipped = (storeReport r (s.env.get r) w s.heldVals).clamped := by rw [hget, acceptCtl_clipped]
  have hraised : Raised (if (acceptCtl (s.env.get r).window (t.src.get r).clipped c).2 then [.sourceChanged] else []) u t := by
    have htake := State.takeReport_raised r w u
    simp only [u, State.finishSource_env, State.finishSource_heldVals] at htake
    rw [hclipped]
    exact htake.congr (by rw [hframe])
  rw [← hclipped] at hget
  refine ⟨?_, ?_, fun hs => ?_, fun hs => ?_, fun hs hc => ?_, fun hs hc hq => ?_, fun hs hc hq => ?_⟩
  · have hset : u.src.set r (t.src.get r) = t.src := by rw [hsrc, PerRole.get_set_self]
    rw [hset, hframe]
    exact congrArg (fun x : State => { x with ports := t.ports }) (u.takeReport_eq r w)
  · rw [hclipped]
    exact hechoed.held_result
  · rw [acceptCtl_of_fresh hs] at hget hraised
    exact ⟨hget, hraised⟩
  · rw [acceptCtl_of_aged hs] at hget hraised
    exact ⟨hget, hraised⟩
  · rw [acceptCtl_of_counted hs hc] at hget hraised
    exact ⟨hget, hraised⟩
  · rw [acceptCtl_of_first hs hc hq] at hget hraised
    exact ⟨hget, hraised⟩
  · rw [acceptCtl_of_third hs hc hq] at hget hraised
    exact ⟨hget, hraised⟩

/-- A report's result is OK exactly where none of its fields was changed (R6). -/
theorem reportResult_eq {b : Bool} {P : Prop} [Decidable P] (h : b = true ↔ ¬ P) :
    (if b then ResultCode.okClamped else .ok) = if P then .ok else .okClamped := by
  by_cases hp : P <;> simp_all

/-! ### The fields of the four reports (R4, R5, R6) -/

section
variable {e : Envelope} (w : Words)

section
variable (h0 : Between 0 1000 e.e0) (h1 : Between 0 1000 e.e1)
include h0 h1

theorem vehicleFields_eq : (vehicleFields e w).1 = ⟨w.w0.getLsbD 0, w.w0.getLsbD 1,
    max (-e.e1) (min e.e0 (max (-1000) (min 1000 w.w1.toInt))), max 0 (min 1000 w.w2.toInt)⟩ := by
  unfold Between at h0 h1
  rw [← reportField_eq (by omega) (by omega) (by omega), ← wireField_eq (by decide)]
  rfl

theorem vehicleFields_result : (if (vehicleFields e w).2 then ResultCode.okClamped else .ok) =
    if max (-e.e1) (min e.e0 (max (-1000) (min 1000 w.w1.toInt))) = w.w1.toInt ∧ max 0 (min 1000 w.w2.toInt) = w.w2.toInt
    then .ok else .okClamped := by
  unfold Between at h0 h1
  apply reportResult_eq
  rw [← reportField_eq (by omega) (by omega) (by omega), ← wireField_eq (by decide)]
  simp only [vehicleFields, Bool.or_eq_true, wireField_changed,
    reportField_changed (lo := -1000) (hi := 1000) (clipLo := -e.e1) (clipHi := e.e0) (by omega) (by omega) (by omega)]
  tauto

theorem vehicleFields_words : (vehicleFields e w).1.words = ⟨w.w0 &&& 3,
    BitVec.ofInt 16 (max (-e.e1) (min e.e0 (max (-1000) (min 1000 w.w1.toInt)))),
    BitVec.ofInt 16 (max 0 (min 1000 w.w2.toInt)), 0⟩ := by
  have hflags : wordN (bitNat (w.w0.getLsbD 0) + 2 * bitNat (w.w0.getLsbD 1)) = w.w0 &&& 3 := by
    rw [show w.w0 &&& 3 = _ from and_mask w.w0 (n := 2) (by decide), bitNat_getLsbD, bitNat_getLsbD, wordN]
    congr 1
    omega
  rw [vehicleFields_eq w h0 h1, ← hflags]
  rfl

theorem motorFields_eq : (motorFields e w).1 = ⟨w.w0.getLsbD 0, max 0 (min e.e0 (max 0 (min 1000 w.w1.toInt))),
    max 0 (min e.e1 (max 0 (min 1000 w.w2.toInt))), max 0 (min 9000 w.w3.toInt)⟩ := by
  unfold Between at h0 h1
  rw [← reportField_eq (by omega) (by omega) (by omega), ← reportField_eq (by omega) (by omega) (by omega),
    ← wireField_eq (by decide)]
  rfl

theorem motorFields_result : (if (motorFields e w).2 then ResultCode.okClamped else .ok) =
    if max 0 (min e.e0 (max 0 (min 1000 w.w1.toInt))) = w.w1.toInt ∧ max 0 (min e.e1 (max 0 (min 1000 w.w2.toInt))) = w.w2.toInt
      ∧ max 0 (min 9000 w.w3.toInt) = w.w3.toInt then .ok else .okClamped := by
  unfold Between at h0 h1
  apply reportResult_eq
  rw [← reportField_eq (by omega) (by omega) (by omega), ← reportField_eq (by omega) (by omega) (by omega),
    ← wireField_eq (by decide)]
  simp only [motorFields, Bool.or_eq_true, wireField_changed,
    reportField_changed (lo := 0) (hi := 1000) (clipLo := 0) (clipHi := e.e0) (by omega) (by omega) (by omega),
    reportField_changed (lo := 0) (hi := 1000) (clipLo := 0) (clipHi := e.e1) (by omega) (by omega) (by omega)]
  tauto

theorem motorFields_words : (motorFields e w).1.words = ⟨w.w0 &&& 1,
    BitVec.ofInt 16 (max 0 (min e.e0 (max 0 (min 1000 w.w1.toInt)))),
    BitVec.ofInt 16 (max 0 (min e.e1 (max 0 (min 1000 w.w2.toInt)))), BitVec.ofInt 16 (max 0 (min 9000 w.w3.toInt))⟩ := by
  have hflags : wordN (bitNat (w.w0.getLsbD 0)) = w.w0 &&& 1 := by
    rw [show w.w0 &&& 1 = _ from and_mask w.w0 (n := 1) (by decide), bitNat_getLsbD, wordN]
    congr 1
    omega
  rw [motorFields_eq w h0 h1, ← hflags]
  rfl

end

section
variable (h0 : Between 0 1000 e.e0) (h1 : Between 0 200 e.e1)
include h0 h1

theorem engineFields_eq : (engineFields e w).1 = ⟨engineStateOf w.w0, (clutchStateOf w.w0).1, w.w0.getLsbD 4, w.w0.getLsbD 5,
    w.w0.getLsbD 6, max 0 (min e.e0 (max 0 (min 1000 w.w1.toInt))), max 0 (min e.e1 (max 0 (min 1000 w.w2.toInt))),
    max 0 (min 9000 w.w3.toInt)⟩ := by
  unfold Between at h0 h1
  rw [← reportField_eq (by omega) (by omega) (by omega), ← reportField_eq (by omega) (by omega) (by omega),
    ← wireField_eq (by decide)]
  rfl

theorem engineFields_result : (if (engineFields e w).2 then ResultCode.okClamped else .ok) =
    if w.w0.toNat / 4 % 4 ≠ 3 ∧ max 0 (min e.e0 (max 0 (min 1000 w.w1.toInt))) = w.w1.toInt
      ∧ max 0 (min e.e1 (max 0 (min 1000 w.w2.toInt))) = w.w2.toInt
      ∧ max 0 (min 9000 w.w3.toInt) = w.w3.toInt then .ok else .okClamped := by
  unfold Between at h0 h1
  apply reportResult_eq
  rw [← reportField_eq (by omega) (by omega) (by omega), ← reportField_eq (by omega) (by omega) (by omega),
    ← wireField_eq (by decide)]
  simp only [engineFields, Bool.or_eq_true, wireField_changed, (clutchStateOf_code w.w0).2,
    reportField_changed (lo := 0) (hi := 1000) (clipLo := 0) (clipHi := e.e0) (by omega) (by omega) (by omega),
    reportField_changed (lo := 0) (hi := 1000) (clipLo := 0) (clipHi := e.e1) (by omega) (by omega) (by omega)]
  tauto

theorem engineFields_words : (engineFields e w).1.words =
    ⟨if w.w0.toNat / 4 % 4 = 3 then w.w0 &&& 0x77 else w.w0 &&& 0x7F,
      BitVec.ofInt 16 (max 0 (min e.e0 (max 0 (min 1000 w.w1.toInt)))),
      BitVec.ofInt 16 (max 0 (min e.e1 (max 0 (min 1000 w.w2.toInt)))), BitVec.ofInt 16 (max 0 (min 9000 w.w3.toInt))⟩ := by
  rw [engineFields_eq w h0 h1, ← engineEcho_eq]
  rfl

end

section
variable (h0 : Between 0 3000 e.e0) (h1 : Between 0 3000 e.e1) (h2 : Between 0 200 e.e2)
include h0 h1 h2

theorem batteryFields_eq : (batteryFields e w).1 = ⟨max 0 (min 1000 w.w0.toInt), max 0 (min e.e0 (max 0 (min 3000 w.w1.toInt))),
    max 0 (min e.e1 (max 0 (min 3000 w.w2.toInt))), max 0 (min e.e2 (max 0 (min 200 w.w3.toInt)))⟩ := by
  unfold Between at h0 h1 h2
  rw [← reportField_eq (by omega) (by omega) (by omega), ← reportField_eq (by omega) (by omega) (by omega),
    ← reportField_eq (by omega) (by omega) (by omega), ← wireField_eq (by decide)]
  rfl

theorem batteryFields_result : (if (batteryFields e w).2 then ResultCode.okClamped else .ok) =
    if max 0 (min 1000 w.w0.toInt) = w.w0.toInt ∧ max 0 (min e.e0 (max 0 (min 3000 w.w1.toInt))) = w.w1.toInt
      ∧ max 0 (min e.e1 (max 0 (min 3000 w.w2.toInt))) = w.w2.toInt
      ∧ max 0 (min e.e2 (max 0 (min 200 w.w3.toInt))) = w.w3.toInt then .ok else .okClamped := by
  unfold Between at h0 h1 h2
  apply reportResult_eq
  rw [← reportField_eq (by omega) (by omega) (by omega), ← reportField_eq (by omega) (by omega) (by omega),
    ← reportField_eq (by omega) (by omega) (by omega), ← wireField_eq (by decide)]
  simp only [batteryFields, Bool.or_eq_true, wireField_changed,
    reportField_changed (lo := 0) (hi := 3000) (clipLo := 0) (clipHi := e.e0) (by omega) (by omega) (by omega),
    reportField_changed (lo := 0) (hi := 3000) (clipLo := 0) (clipHi := e.e1) (by omega) (by omega) (by omega),
    reportField_changed (lo := 0) (hi := 200) (clipLo := 0) (clipHi := e.e2) (by omega) (by omega) (by omega)]
  tauto

theorem batteryFields_words : (batteryFields e w).1.words = ⟨BitVec.ofInt 16 (max 0 (min 1000 w.w0.toInt)),
    BitVec.ofInt 16 (max 0 (min e.e0 (max 0 (min 3000 w.w1.toInt)))),
    BitVec.ofInt 16 (max 0 (min e.e1 (max 0 (min 3000 w.w2.toInt)))),
    BitVec.ofInt 16 (max 0 (min e.e2 (max 0 (min 200 w.w3.toInt))))⟩ := by
  rw [batteryFields_eq w h0 h1 h2]
  rfl

end

end

/-- Settles O18: each stored field is its word clamped and clipped, and the echo is the stored values. -/
theorem vehicleAndEngineReportsStoreTheirFields : Obligations.VehicleAndEngineReportsStoreTheirFields := by
  constructor
  · intro p tag w s h hd he
    obtain ⟨h0, h1, -⟩ := he.vehicle
    have hheld := State.goodFrame_report_held (r := .vehicle) h hd tag w
    have hechoed := State.goodFrame_report_echoed (r := .vehicle) h hd tag w
    simp only [storeReport, PerRole.get, vehicleFields_result w h0 h1, vehicleFields_words w h0 h1] at hechoed
    simp only [storeReport, PerRole.get, vehicleFields_eq w h0 h1] at hheld
    exact ⟨_, exec_command .vehicleReport p tag w s, hheld, hechoed⟩
  · intro p tag w s h hd he
    obtain ⟨h0, h1, -⟩ := he.engine
    have hheld := State.goodFrame_report_held (r := .engine) h hd tag w
    have hechoed := State.goodFrame_report_echoed (r := .engine) h hd tag w
    simp only [storeReport, PerRole.get, engineFields_result w h0 h1, engineFields_words w h0 h1] at hechoed
    simp only [storeReport, PerRole.get, engineFields_eq w h0 h1] at hheld
    refine ⟨_, exec_command .engineReport p tag w s, ?_⟩
    dsimp only [reportKind] at hheld hechoed
    rw [hheld]
    exact ⟨rfl, engineStateOf_code w.w0, (clutchStateOf_code w.w0).1, rfl, rfl, rfl, rfl, rfl, rfl, hechoed⟩

/-- Settles O19, as O18. -/
theorem motorAndBatteryReportsStoreTheirFields : Obligations.MotorAndBatteryReportsStoreTheirFields := by
  constructor
  · intro p tag w s h hd he
    obtain ⟨h0, h1, -⟩ := he.motor
    have hheld := State.goodFrame_report_held (r := .motor) h hd tag w
    have hechoed := State.goodFrame_report_echoed (r := .motor) h hd tag w
    simp only [storeReport, PerRole.get, motorFields_result w h0 h1, motorFields_words w h0 h1] at hechoed
    simp only [storeReport, PerRole.get, motorFields_eq w h0 h1] at hheld
    exact ⟨_, exec_command .motorReport p tag w s, hheld, hechoed⟩
  · intro p tag w s h hd he
    obtain ⟨h0, h1, h2⟩ := he.battery
    have hheld := State.goodFrame_report_held (r := .battery) h hd tag w
    have hechoed := State.goodFrame_report_echoed (r := .battery) h hd tag w
    simp only [storeReport, PerRole.get, batteryFields_result w h0 h1 h2, batteryFields_words w h0 h1 h2] at hechoed
    simp only [storeReport, PerRole.get, batteryFields_eq w h0 h1 h2] at hheld
    exact ⟨_, exec_command .batteryReport p tag w s, hheld, hechoed⟩

/-! ### A DECLARE that is taken (R26 to R32) -/

theorem declareCtl_eq (f : Nat) (b : Bool) (c : SourceCtl) : declareCtl f b c =
    if c.state = .undeclared then
      { c with state := .lapsed, fresh := 0, hold := 0, requal := 0, counted := false, clipped := c.clipped || b }
    else { c with fresh := min c.fresh f, clipped := c.clipped || b } := by
  unfold declareCtl
  cases c.state <;> simp

/-- The lower ends of an envelope's ranges are not negative (R24). -/
theorem declaredEnvelope_nonneg (r : Role) (w : Words) :
    0 ≤ (declaredEnvelope r w).e0 ∧ 0 ≤ (declaredEnvelope r w).e1 ∧ 0 ≤ (declaredEnvelope r w).e2 := by
  have field (lo hi x : Int) (h : lo ≤ hi) (h0 : 0 ≤ lo) : 0 ≤ clamp lo hi x := h0.trans (clamp_between h x).1
  cases r <;> exact ⟨field _ _ _ (by decide) (by decide), field _ _ _ (by decide) (by decide), field _ _ _ (by decide) (by decide)⟩

theorem sentEnvelope_words (w : Words) : (sentEnvelope w).words = w := by
  unfold Envelope.words sentEnvelope
  simp only [word_signed]

/-- Settles O24: the words clamped to the role's ranges are the envelope, and the values are clipped to it. -/
theorem declareTakenInInitOrParked : Obligations.DeclareTakenInInitOrParked := by
  intro r p tag w s h hmode
  have hopen : declareOpen s.record.mode = true := (declareOpen_iff _).mpr hmode
  have hans := State.goodFrame_declare_answered r h tag w
  have hframe := State.goodFrame_declare r h tag w
  rw [serveDeclare_of_open hopen] at hans hframe
  obtain ⟨he0, he1, he2⟩ := declaredEnvelope_nonneg r w
  have hheld : (s.goodFrame (declareKind r) p tag w).heldVals = reclip r (declaredEnvelope r w) (s.finishSource r).heldVals := by
    rw [hframe]
    rfl
  have hshape : s.goodFrame (declareKind r) p tag w =
      { (s.finishSource r).takeDeclare r w with ports := (s.goodFrame (declareKind r) p tag w).ports } := by
    rw [hframe]
    rfl
  refine ⟨_, declaredEnvelope r w, exec_command _ p tag w s, ?_, ?_, ?_⟩
  · cases r <;> simp (disch := decide) only [declaredEnvelope, envelopeRange, clamp_eq] <;> rfl
  · by_cases heq : declaredEnvelope r w = sentEnvelope w
    · rw [if_pos heq, heq, sentEnvelope_words] at hans
      exact (if_pos heq).mpr hans
    · rw [if_neg heq] at hans
      exact (if_neg heq).mpr hans
  · clear hframe hans
    generalize s.goodFrame (declareKind r) p tag w = t at *
    intro u c h d
    have hsrc : (if c.state = .undeclared then { d with state := .lapsed, fresh := 0, hold := 0, requal := 0, counted := false }
        else d) = declareCtl (declaredEnvelope r w).window (decide (t.heldVals ≠ h)) c := (declareCtl_eq _ _ c).symm
    refine ⟨?_, (State.takeDeclare_raised r w u).congr (by rw [hshape]), ?_⟩
    · rw [hsrc, hheld, hshape]
      rfl
    · rw [hheld]
      cases r <;> simp only [reclip]
      · rw [clamp_eq (by omega)]
      · rw [clamp_eq he0, clamp_eq he1]
      · rw [clamp_eq he0, clamp_eq he1]
      · rw [clamp_eq he0, clamp_eq he1, clamp_eq he2]

end Sys2Proof.Machine
end

section
/-! SUPPORT. SRC's stage: what the boundary makes of each source, the snapshot and the claim, whatever part of it a report, a DECLARE or an
expiry has brought forward (R11 to R23, R157; logs 7, 9). -/

namespace Sys2Proof.Machine

/-! ### The boundary update of one record (R11 to R14) -/

section
variable (h : Nat) {c : SourceCtl}

theorem boundaryCtl_of_undeclared (hs : c.state = .undeclared) : boundaryCtl h c = (c, false, false) := by simp [boundaryCtl, hs]

theorem boundaryCtl_of_fresh (hs : c.state = .fresh) (hf : 1 < c.fresh) :
    boundaryCtl h c = ({ c with fresh := c.fresh - 1 }, false, false) := by
  simp [boundaryCtl, hs]
  omega

theorem boundaryCtl_of_aging (hs : c.state = .fresh) (hf : c.fresh ≤ 1) :
    boundaryCtl h c = ({ c with state := .aged, fresh := 0, hold := h }, true, false) := by
  simp [boundaryCtl, hs]
  omega

theorem boundaryCtl_of_aged (hs : c.state = .aged) (hh : 1 < c.hold) :
    boundaryCtl h c = ({ c with hold := c.hold - 1 }, false, false) := by
  simp [boundaryCtl, hs]
  omega

theorem boundaryCtl_of_lapsing (hs : c.state = .aged) (hh : c.hold ≤ 1) :
    boundaryCtl h c = ({ c with state := .lapsed, hold := 0, requal := 0, counted := false }, true, true) := by
  simp [boundaryCtl, hs]
  omega

theorem boundaryCtl_of_spent (hs : c.state = .lapsed) (hf : c.fresh = 1) :
    boundaryCtl h c = ({ c with fresh := 0, requal := 0, counted := false }, false, false) := by simp [boundaryCtl, hs, hf]

theorem boundaryCtl_of_lapsed (hs : c.state = .lapsed) (hf : c.fresh ≠ 1) :
    boundaryCtl h c = ({ c with fresh := c.fresh - 1, counted := false }, false, false) := by simp [boundaryCtl, hs, hf]

variable (c)

/-- SOURCE_CHANGED is raised exactly for a change of state (R23). -/
theorem boundaryCtl_changed : (boundaryCtl h c).2.1 = decide ((boundaryCtl h c).1.state ≠ c.state) := by
  unfold boundaryCtl
  split <;> rename_i hs
  · simp [hs]
  · split_ifs <;> simp [hs]
  · split_ifs <;> simp [hs]
  · simp [hs]

/-- CAL is told exactly of an entry to LAPSED (R12). -/
theorem boundaryCtl_signal : (boundaryCtl h c).2.2 = decide (c.state = .aged ∧ (boundaryCtl h c).1.state = .lapsed) := by
  unfold boundaryCtl
  split <;> rename_i hs
  · simp [hs]
  · split_ifs <;> simp [hs]
  · split_ifs <;> simp [hs]
  · simp [hs]

end

/-! ### The claim at a boundary update (R157) -/

/-- The calibration store after the loss of its claim. -/
def Cal.loseClaim (m : Claim) (k : Cal) : Cal :=
  { k with claim := none, lastRejection := if m.pending then .claimLost else k.lastRejection }

/-- A source still to be brought up to date enters LAPSED at this boundary. -/
def State.lapses (r : Role) (s : State) : Bool :=
  !s.snapDone.get r && (boundaryCtl s.cal.active.holdPeriods (s.src.get r)).2.2

section
variable {r : Role} {s : State}

theorem State.boundaryUpdate_keeps_claim
    (h : ∀ m, s.cal.claim = some m → (s.ports.get m.holder).role = r →
      (boundaryCtl s.cal.active.holdPeriods (s.src.get r)).2.2 = false) : (s.boundaryUpdate r).cal = s.cal := by
  unfold State.boundaryUpdate
  dsimp only
  split_ifs with hl
  · unfold State.lapseSignal
    simp only [State.broadcastIf_cal, State.broadcastIf_ports]
    split
    · next m hm =>
      rw [if_neg fun hr => by simp [h m hm hr] at hl]
      simp
    · simp
  · simp

theorem State.boundaryUpdate_loses_claim {m : Claim} (hm : s.cal.claim = some m) (hr : (s.ports.get m.holder).role = r)
    (hl : (boundaryCtl s.cal.active.holdPeriods (s.src.get r)).2.2 = true) :
    (s.boundaryUpdate r).cal = s.cal.loseClaim m := by
  unfold State.boundaryUpdate State.lapseSignal
  simp [hl, hm, hr, Cal.loseClaim]

theorem State.settleSource_keeps_claim
    (h : ∀ m, s.cal.claim = some m → (s.ports.get m.holder).role = r → s.lapses r = false) : (s.settleSource r).cal = s.cal := by
  cases hd : s.snapDone.get r with
  | true => rw [State.settleSource_of_done hd]
  | false =>
    rw [State.settleSource_cal hd]
    exact State.boundaryUpdate_keeps_claim fun m hm hr => by simpa [State.lapses, hd] using h m hm hr

theorem State.settleSource_loses_claim {m : Claim} (hm : s.cal.claim = some m) (hr : (s.ports.get m.holder).role = r)
    (hl : s.lapses r = true) : (s.settleSource r).cal = s.cal.loseClaim m := by
  simp only [State.lapses, Bool.and_eq_true, Bool.not_eq_true'] at hl
  obtain ⟨hd, hsignal⟩ := hl
  rw [State.settleSource_cal hd]
  exact State.boundaryUpdate_loses_claim hm hr hsignal

end

/-- A source's part leaves the origin. -/
@[simp] theorem State.settleSource_origin (r : Role) (s : State) : (s.settleSource r).cal.origin = s.cal.origin := by
  cases h : s.snapDone.get r with
  | true => rw [State.settleSource_of_done h]
  | false =>
    rw [State.settleSource_cal h]
    obtain hc | ⟨why, hc⟩ := State.boundaryUpdate_cal r s <;> rw [hc]

/-! ### What SRC's stage still has to make of a state -/

/-- A table by its four entries. -/
def roleTable {α : Type} (f : Role → α) : PerRole α := ⟨f .vehicle, f .engine, f .motor, f .battery⟩

@[simp] theorem roleTable_get {α : Type} (f : Role → α) (r : Role) : (roleTable f).get r = f r := by cases r <;> rfl

/-- A table by its four entries. -/
def portTable {α : Type} (f : PortId → α) : PerPort α := ⟨f .p0, f .p1, f .p2, f .p3⟩

@[simp] theorem portTable_get {α : Type} (f : PortId → α) (p : PortId) : (portTable f).get p = f p := by cases p <;> rfl

namespace State

/-- A source's record as SRC's stage leaves it. -/
def dueSrc (s : State) (r : Role) : SourceCtl :=
  if s.snapDone.get r then s.src.get r else (boundaryCtl s.cal.active.holdPeriods (s.src.get r)).1

/-- A source's period copy as SRC's stage leaves it (R25). -/
def dueCopy (s : State) (r : Role) : Envelope := if s.snapDone.get r then s.envCopy.get r else s.env.get r

/-- The snapshot as SRC's stage leaves it (R17 to R22). -/
def dueSnap (s : State) : Snapshot where
  state := roleTable fun r => if s.snapDone.get r then s.snap.state.get r else presented (s.dueSrc r).state
  vehicle := if s.snapDone.get .vehicle then s.snap.vehicle
    else vehicleSnap (s.dueSrc .vehicle).state s.heldVals.vehicle s.record.td (s.dueCopy .vehicle).e2
  engine := if s.snapDone.get .engine then s.snap.engine else engineSnap (s.dueSrc .engine).state s.heldVals.engine
  motor := if s.snapDone.get .motor then s.snap.motor else motorSnap (s.dueSrc .motor).state s.heldVals.motor
  battery := if s.snapDone.get .battery then s.snap.battery else batterySnap (s.dueSrc .battery).state s.heldVals.battery

/-- The calibration store as SRC's stage leaves it (R157). -/
def dueCal (s : State) : Cal :=
  match s.cal.claim with
  | some m => if s.lapses (s.ports.get m.holder).role then s.cal.loseClaim m else s.cal
  | none => s.cal

/-- The notices that SRC's stage still raises for a source (R23, R157). -/
def dueNotices (s : State) (r : Role) : List NoticeKind := if s.snapDone.get r then [] else s.boundaryNotices r

/-- The notices that SRC's stage still raises, in role order. -/
def allDueNotices (s : State) : List NoticeKind := ([.vehicle, .engine, .motor, .battery] : List Role).flatMap s.dueNotices

/-- A port's notice sets as SRC's stage leaves them. -/
def dueNtc (s : State) (p : PortId) : Notices :=
  if (s.ports.get p).disabled then s.ntc.get p else s.allDueNotices.foldl (fun n k => n.raise k) (s.ntc.get p)

/-- The state as SRC's stage leaves it, but for the stage that comes next. -/
def due (s : State) : State :=
  { s with src := roleTable s.dueSrc, snap := s.dueSnap, snapDone := .all true, envCopy := roleTable s.dueCopy, cal := s.dueCal
           ntc := portTable s.dueNtc }

theorem dueCal_of_free {s : State} (h : s.cal.claim = none) : s.dueCal = s.cal := by simp [dueCal, h]

theorem dueCal_of_claim {s : State} {m : Claim} (h : s.cal.claim = some m) :
    s.dueCal = if s.lapses (s.ports.get m.holder).role then s.cal.loseClaim m else s.cal := by simp [dueCal, h]

/-! ### One source's part changes nothing of that -/

section
variable {q : Role} {s : State} (hd : s.snapDone.get q = false)
include hd

theorem dueSrc_settle (r : Role) : (s.settleSource q).dueSrc r = s.dueSrc r := by
  unfold dueSrc
  rw [settleSource_snapDone hd, settleSource_src hd, settleSource_active]
  by_cases hr : r = q
  · subst hr
    simp [hd]
  · simp only [PerRole.get_set_ne _ _ hr]

theorem dueCopy_settle (r : Role) : (s.settleSource q).dueCopy r = s.dueCopy r := by
  unfold dueCopy
  rw [settleSource_snapDone hd, settleSource_envCopy hd, settleSource_env]
  by_cases hr : r = q
  · subst hr
    simp [hd]
  · simp only [PerRole.get_set_ne _ _ hr]

theorem dueSnap_settle : (s.settleSource q).dueSnap = s.dueSnap := by
  have hsrc := funext (dueSrc_settle hd)
  have hcopy := funext (dueCopy_settle hd)
  unfold dueSnap
  rw [hsrc, hcopy, settleSource_snapDone hd, settleSource_snap hd, settleSource_heldVals, settleSource_record]
  cases q <;> simp only [PerRole.get] at hd <;>
    simp [snapPart, roleTable, PerRole.get, PerRole.set, dueSrc, dueCopy, hd] <;>
    exact ⟨⟨rfl, rfl, rfl⟩, rfl, rfl, rfl⟩

theorem lapses_settle_self : (s.settleSource q).lapses q = false := by simp [lapses, settleSource_snapDone hd]

theorem lapses_settle_ne {r : Role} (hr : r ≠ q) : (s.settleSource q).lapses r = s.lapses r := by
  unfold lapses
  rw [settleSource_snapDone hd, settleSource_src hd, settleSource_active, PerRole.get_set_ne _ _ hr, PerRole.get_set_ne _ _ hr]

theorem dueCal_settle : (s.settleSource q).dueCal = s.dueCal := by
  cases hm : s.cal.claim with
  | none =>
    have hkeep : (s.settleSource q).cal = s.cal := settleSource_keeps_claim fun m h => by rw [hm] at h; cases h
    rw [dueCal_of_free (by rw [hkeep]; exact hm), dueCal_of_free hm, hkeep]
  | some m =>
    rw [dueCal_of_claim hm]
    by_cases hr : (s.ports.get m.holder).role = q
    · cases hl : s.lapses q with
      | true =>
        have hlose := settleSource_loses_claim hm hr hl
        rw [dueCal_of_free (by rw [hlose]; rfl), hlose, hr, hl]
        rfl
      | false =>
        have hkeep : (s.settleSource q).cal = s.cal := settleSource_keeps_claim fun _ _ _ => hl
        rw [dueCal_of_claim (by rw [hkeep]; exact hm), hkeep, settleSource_ports, hr, hl, lapses_settle_self hd]
    · have hkeep : (s.settleSource q).cal = s.cal := settleSource_keeps_claim fun x hx hq => by
        rw [hm] at hx
        cases hx
        exact absurd hq hr
      rw [dueCal_of_claim (by rw [hkeep]; exact hm), hkeep, settleSource_ports, lapses_settle_ne hd hr]

omit hd in
theorem lapseNotices_settle_ne {r : Role} (hr : r ≠ q) : (s.settleSource q).lapseNotices r = s.lapseNotices r := by
  have hports := settleSource_ports q s
  cases hm : s.cal.claim with
  | none => exact lapseNotices_congr (settleSource_keeps_claim fun m h => by rw [hm] at h; cases h) hports
  | some m =>
    by_cases hlose : (s.ports.get m.holder).role = q ∧ s.lapses q = true
    · obtain ⟨hq, hl⟩ := hlose
      have hne : (s.ports.get m.holder).role ≠ r := fun h => hr (h ▸ hq)
      unfold lapseNotices
      rw [settleSource_loses_claim hm hq hl, hm]
      simp [Cal.loseClaim, hne]
    · refine lapseNotices_congr (settleSource_keeps_claim fun x hx hq => ?_) hports
      rw [hm] at hx
      cases hx
      exact Bool.eq_false_iff.mpr fun hl => hlose ⟨hq, hl⟩

theorem dueNotices_settle_self : (s.settleSource q).dueNotices q = [] := by simp [dueNotices, settleSource_snapDone hd]

theorem dueNotices_settle_ne {r : Role} (hr : r ≠ q) : (s.settleSource q).dueNotices r = s.dueNotices r := by
  unfold dueNotices boundaryNotices
  rw [lapseNotices_settle_ne hr, settleSource_snapDone hd, settleSource_src hd, settleSource_active, PerRole.get_set_ne _ _ hr,
    PerRole.get_set_ne _ _ hr]

/-- One source's part raises its own notices, and leaves the others' to be raised. -/
theorem allDueNotices_settle : (s.boundaryNotices q ++ (s.settleSource q).allDueNotices).Perm s.allDueNotices := by
  have hown : s.dueNotices q = s.boundaryNotices q := by simp [dueNotices, hd]
  have hself := dueNotices_settle_self hd
  have hothers (r : Role) (hr : r ≠ q) := dueNotices_settle_ne hd hr
  rw [← hown]
  unfold allDueNotices
  cases q with
  | vehicle =>
    simp [hself, hothers .engine (by decide), hothers .motor (by decide), hothers .battery (by decide)]
  | engine =>
    simp only [List.flatMap_cons, List.flatMap_nil, hself, hothers .vehicle (by decide), hothers .motor (by decide),
      hothers .battery (by decide), List.nil_append, List.append_nil]
    exact List.perm_append_comm_assoc _ _ _
  | motor =>
    simp only [List.flatMap_cons, List.flatMap_nil, hself, hothers .vehicle (by decide), hothers .engine (by decide),
      hothers .battery (by decide), List.nil_append, List.append_nil]
    exact (List.perm_append_comm_assoc _ _ _).trans ((List.perm_append_comm_assoc _ _ _).append_left _)
  | battery =>
    simp only [List.flatMap_cons, List.flatMap_nil, hself, hothers .vehicle (by decide), hothers .engine (by decide),
      hothers .motor (by decide), List.append_nil]
    exact (List.perm_append_comm_assoc _ _ _).trans (((List.perm_append_comm_assoc _ _ _).trans
      (List.perm_append_comm.append_left _)).append_left _)

theorem dueNtc_settle (p : PortId) : (s.settleSource q).dueNtc p = s.dueNtc p := by
  have hraised := settleSource_raised hd p
  unfold dueNtc
  rw [settleSource_ports, hraised]
  split_ifs
  · rfl
  · rw [← List.foldl_append]
    exact (allDueNotices_settle hd).foldl_eq' (fun k _ j _ n => Notices.raise_comm k j n) _

end

theorem due_settle (q : Role) (s : State) : (s.settleSource q).due = s.due := by
  cases hd : s.snapDone.get q with
  | true => rw [settleSource_of_done hd]
  | false =>
    unfold due
    rw [funext (dueSrc_settle hd), dueSnap_settle hd, funext (dueCopy_settle hd), dueCal_settle hd, funext (dueNtc_settle hd)]
    apply ext_fields <;> simp

theorem settleSource_done_self (q : Role) (s : State) : (s.settleSource q).snapDone.get q = true := by
  cases hd : s.snapDone.get q with
  | true => rw [settleSource_of_done hd, hd]
  | false => rw [settleSource_snapDone hd, PerRole.get_set_self]

theorem settleSource_done_mono {r : Role} {s : State} (h : s.snapDone.get r = true) (q : Role) :
    (s.settleSource q).snapDone.get r = true := by
  cases hd : s.snapDone.get q with
  | true => rw [settleSource_of_done hd, h]
  | false =>
    rw [settleSource_snapDone hd, PerRole.get_set]
    split
    · rfl
    · exact h

/-- A state whose sources are all up to date is as SRC's stage leaves it. -/
theorem due_of_done {s : State} (h : ∀ r, s.snapDone.get r = true) : s.due = s := by
  have hnone : s.allDueNotices = [] := by simp [allDueNotices, dueNotices, h]
  apply ext_fields <;> try rfl
  · exact PerRole.ext_get fun r => by simp [due, dueSrc, h]
  · show s.dueSnap = s.snap
    unfold dueSnap
    simp only [h, if_true, roleTable]
    rfl
  · exact PerRole.ext_get fun r => by simp [due, h]
  · exact PerRole.ext_get fun r => by simp [due, dueCopy, h]
  · show s.dueCal = s.cal
    cases hm : s.cal.claim with
    | none => exact dueCal_of_free hm
    | some m => rw [dueCal_of_claim hm]; simp [lapses, h]
  · exact PerPort.ext_get fun p => by simp [due, dueNtc, hnone]

/-- SRC's stage makes of each source what is due, whatever has been brought forward (log 7). -/
theorem snapshotStage_due {s : State} (hr : s.rstN = true) (hs : s.stage = .src) : s.snapshotStage = { s.due with stage := .spd } := by
  rw [snapshotStage_eq hr hs]
  have hdone (r : Role) : ((((s.settleSource .vehicle).settleSource .engine).settleSource .motor).settleSource .battery).snapDone.get r
      = true := by
    cases r with
    | vehicle =>
      exact settleSource_done_mono (settleSource_done_mono (settleSource_done_mono (settleSource_done_self _ _) _) _) _
    | engine => exact settleSource_done_mono (settleSource_done_mono (settleSource_done_self _ _) _) _
    | motor => exact settleSource_done_mono (settleSource_done_self _ _) _
    | battery => exact settleSource_done_self _ _
  rw [← due_of_done hdone, due_settle, due_settle, due_settle, due_settle]

end State

end Sys2Proof.Machine
end

section
/-! SUPPORT. The boundary update, the snapshot and the expiries, settled (R11 to R23, R157). -/

namespace Sys2Proof.Machine

namespace State

variable {s : State} {r : Role}

theorem dueSrc_of_done (hd : s.snapDone.get r = true) : s.dueSrc r = s.src.get r := if_pos hd

theorem dueSrc_of_due (hd : s.snapDone.get r = false) :
    s.dueSrc r = (boundaryCtl s.cal.active.holdPeriods (s.src.get r)).1 := if_neg (by simp [hd])

/-- The sources that lapse are those that were AGED and are left LAPSED (R12). -/
theorem lapses_iff : s.lapses r = true ↔ (s.src.get r).state = .aged ∧ (s.dueSrc r).state = .lapsed := by
  unfold lapses
  cases hd : s.snapDone.get r with
  | true =>
    rw [dueSrc_of_done hd]
    simp only [Bool.not_true, Bool.false_and, Bool.false_eq_true, false_iff]
    rintro ⟨haged, hlapsed⟩
    rw [haged] at hlapsed
    cases hlapsed
  | false =>
    rw [dueSrc_of_due hd, boundaryCtl_signal]
    simp

/-- The notices due are SOURCE_CHANGED for a change of state, and the claim's loss for a lapse (R23, R157). -/
theorem dueNotices_eq : s.dueNotices r =
    (if (s.dueSrc r).state ≠ (s.src.get r).state then [.sourceChanged] else [])
      ++ if s.lapses r then s.lapseNotices r else [] := by
  unfold dueNotices boundaryNotices lapses
  dsimp only
  cases hd : s.snapDone.get r with
  | true => simp [dueSrc_of_done hd]
  | false =>
    rw [dueSrc_of_due hd, boundaryCtl_changed]
    simp

theorem lapseNotices_of_free (h : s.cal.claim = none) : s.lapseNotices r = [] := by simp [lapseNotices, h]

theorem lapseNotices_of_claim {m : Claim} (h : s.cal.claim = some m) :
    s.lapseNotices r = if (s.ports.get m.holder).role = r then m.lossNotices else [] := by simp [lapseNotices, h]

/-- What SRC's stage makes of a record, case by case (R11 to R14). -/
theorem dueSrc_cases (hd : s.snapDone.get r = false) :
    let c := s.src.get r
    (c.state = .undeclared → s.dueSrc r = c)
    ∧ (c.state = .fresh → 1 < c.fresh → s.dueSrc r = { c with fresh := c.fresh - 1 })
    ∧ (c.state = .fresh → c.fresh ≤ 1 → s.dueSrc r = { c with state := .aged, fresh := 0, hold := s.cal.active.holdPeriods })
    ∧ (c.state = .aged → 1 < c.hold → s.dueSrc r = { c with hold := c.hold - 1 })
    ∧ (c.state = .aged → c.hold ≤ 1 → s.dueSrc r = { c with state := .lapsed, hold := 0, requal := 0, counted := false })
    ∧ (c.state = .lapsed → c.fresh = 1 → s.dueSrc r = { c with fresh := 0, requal := 0, counted := false })
    ∧ (c.state = .lapsed → c.fresh ≠ 1 → s.dueSrc r = { c with fresh := c.fresh - 1, counted := false }) := by
  rw [dueSrc_of_due hd]
  exact ⟨fun h => by rw [boundaryCtl_of_undeclared _ h], fun h hf => by rw [boundaryCtl_of_fresh _ h hf],
    fun h hf => by rw [boundaryCtl_of_aging _ h hf], fun h hh => by rw [boundaryCtl_of_aged _ h hh],
    fun h hh => by rw [boundaryCtl_of_lapsing _ h hh], fun h hf => by rw [boundaryCtl_of_spent _ h hf],
    fun h hf => by rw [boundaryCtl_of_lapsed _ h hf]⟩

end State

/-- Settles O21: the stage makes of the state what was still due of each source, whichever sources were brought forward. -/
theorem snapshotUpdatesTheSources : Obligations.SnapshotUpdatesTheSources := by
  intro s hr hs
  refine ⟨_, congrArg Host.Outcome.next (State.snapshotStage_due hr hs), rfl, rfl, fun r => ⟨?_, fun hd => ?_, fun hd => ?_⟩, ?_, ?_, ?_⟩
  · cases r <;> rfl
  · exact ⟨by simp [State.due, State.dueSrc_of_done hd], by simp [State.due, State.dueCopy, hd]⟩
  · simp only [State.due, roleTable_get]
    exact ⟨if_neg (by simp [hd]), State.dueSrc_cases hd⟩
  · exact State.dueCal_of_free
  · intro m hm
    simp only [State.due, roleTable_get]
    rw [State.dueCal_of_claim hm]
    refine ⟨fun hl => if_neg (mt State.lapses_iff.mp hl), fun hl => ?_⟩
    rw [if_pos (State.lapses_iff.mpr hl)]
    rfl
  · intro q
    have hlist : s.allDueNotices = ([.vehicle, .engine, .motor, .battery] : List Role).flatMap s.dueNotices := rfl
    simp only [State.due, roleTable_get, portTable_get, State.dueNtc]
    rw [hlist]
    congr 3
    funext r
    rw [State.dueNotices_eq]
    congr 1
    cases hm : s.cal.claim with
    | none => rw [State.lapseNotices_of_free hm, ite_self]
    | some m =>
      rw [State.lapseNotices_of_claim hm]
      dsimp only
      by_cases hrole : (s.ports.get m.holder).role = r
      · subst hrole
        simp only [State.lapses_iff, and_true, if_true, Claim.lossNotices]
        split_ifs <;> rfl
      · simp [hrole]

/-- The decay ramp moves a torque toward 0 and no further (R18). -/
theorem decay_toward_zero {ramp : Int} (h : 0 ≤ ramp) (td : Int) :
    decay td ramp = if 0 ≤ td then td - min td ramp else td + min (-td) ramp := by
  rw [decay_eq h]
  split_ifs <;> omega

theorem presented_eq (f : Freshness) : presented f = if f = .undeclared then .lapsed else f := by cases f <;> rfl

theorem vehicleSnap_eq (f : Freshness) (v : VehicleValues) (td ramp : Int) :
    vehicleSnap f v td ramp = if presented f = .lapsed then ⟨false, false, decay td ramp, 0⟩ else v := by cases f <;> rfl

theorem engineSnap_eq (f : Freshness) (v : EngineValues) :
    engineSnap f v = if presented f = .lapsed then ⟨.fault, .opened, false, false, false, 0, 0, 0⟩ else v := by cases f <;> rfl

theorem motorSnap_eq (f : Freshness) (v : MotorValues) :
    motorSnap f v = if presented f = .lapsed then ⟨false, 0, 0, none⟩ else ⟨v.derating, v.motoring, v.generating, some v.speed⟩ := by
  cases f <;> rfl

theorem batterySnap_eq (f : Freshness) (v : BatteryValues) :
    batterySnap f v = if presented f = .lapsed then ⟨v.soc, 0, 0, 0⟩ else v := by cases f <;> rfl

section
variable {s : State} (hd : ∀ r, s.snapDone.get r = false)
include hd

theorem State.dueSnap_state (r : Role) : s.dueSnap.state.get r = presented (s.dueSrc r).state := by simp [State.dueSnap, hd]

theorem State.dueSnap_vehicle (hramp : 0 ≤ s.env.vehicle.e2) : s.dueSnap.vehicle =
    if s.dueSnap.state.vehicle = .lapsed then
      ⟨false, false, if 0 ≤ s.record.td then s.record.td - min s.record.td s.env.vehicle.e2
                     else s.record.td + min (-s.record.td) s.env.vehicle.e2, 0⟩
    else s.heldVals.vehicle := by
  have hstate : s.dueSnap.state.vehicle = _ := State.dueSnap_state hd .vehicle
  rw [hstate, ← decay_toward_zero hramp, ← vehicleSnap_eq]
  simp only [State.dueSnap, hd, State.dueCopy, Bool.false_eq_true, if_false]
  rfl

theorem State.dueSnap_engine : s.dueSnap.engine =
    if s.dueSnap.state.engine = .lapsed then ⟨.fault, .opened, false, false, false, 0, 0, 0⟩ else s.heldVals.engine := by
  have hstate : s.dueSnap.state.engine = _ := State.dueSnap_state hd .engine
  rw [hstate, ← engineSnap_eq]
  simp [State.dueSnap, hd]

theorem State.dueSnap_motor : s.dueSnap.motor =
    if s.dueSnap.state.motor = .lapsed then ⟨false, 0, 0, none⟩
    else ⟨s.heldVals.motor.derating, s.heldVals.motor.motoring, s.heldVals.motor.generating, some s.heldVals.motor.speed⟩ := by
  have hstate : s.dueSnap.state.motor = _ := State.dueSnap_state hd .motor
  rw [hstate, ← motorSnap_eq]
  simp [State.dueSnap, hd]

theorem State.dueSnap_battery : s.dueSnap.battery =
    if s.dueSnap.state.battery = .lapsed then ⟨s.heldVals.battery.soc, 0, 0, 0⟩ else s.heldVals.battery := by
  have hstate : s.dueSnap.state.battery = _ := State.dueSnap_state hd .battery
  rw [hstate, ← batterySnap_eq]
  simp [State.dueSnap, hd]

end

/-- Settles O22, from what SRC's stage makes of the snapshot. -/
theorem snapshotHoldsValuesOrSubstitutes : Obligations.SnapshotHoldsValuesOrSubstitutes := by
  intro s hr hs hd hramp
  have hdue (r : Role) : s.snapDone.get r = false := by rw [hd]; cases r <;> rfl
  refine ⟨_, congrArg Host.Outcome.next (State.snapshotStage_due hr hs), fun r => ?_, State.dueSnap_vehicle hdue hramp,
    State.dueSnap_engine hdue, State.dueSnap_motor hdue, State.dueSnap_battery hdue⟩
  refine (State.dueSnap_state hdue r).trans ?_
  rw [presented_eq]
  simp only [State.due, roleTable_get]

/-! ### The expiries (R11 to R13; log 7) -/

section
variable {d : SourceCtl → Bool} {r : Role} {s : State}

theorem State.sourceExpiry_of_not (h : ¬ (s.rstN = true ∧ s.stage = .src ∧ d (s.src.get r) = true)) : s.sourceExpiry d r = s := if_neg h

theorem State.sourceExpiry_of_passed (h : s.rstN = false ∨ s.stage ≠ .src ∨ s.snapDone.get r = true) : s.sourceExpiry d r = s := by
  obtain h | h | h := h
  · exact State.sourceExpiry_of_not fun hn => by simp [h] at hn
  · exact State.sourceExpiry_of_not fun hn => h hn.2.1
  · unfold State.sourceExpiry
    rw [State.settleSource_of_done h, ite_self]

theorem State.sourceExpiry_of_due (hr : s.rstN = true) (hs : s.stage = .src) (hd : d (s.src.get r) = true) :
    s.sourceExpiry d r = s.settleSource r := if_pos ⟨hr, hs, hd⟩

/-- One source's part of SRC's stage writes these fields and no others. -/
theorem State.settleSource_fields (hd : s.snapDone.get r = false) : s.settleSource r =
    { s with src := s.src.set r (boundaryCtl s.cal.active.holdPeriods (s.src.get r)).1, snap := (s.settleSource r).snap
             snapDone := s.snapDone.set r true, envCopy := s.envCopy.set r (s.env.get r), cal := (s.settleSource r).cal
             ntc := (s.settleSource r).ntc } := by
  apply State.ext_fields <;> simp [State.settleSource_src hd, State.settleSource_snapDone hd, State.settleSource_envCopy hd]

theorem freshnessExpires_iff {c : SourceCtl} : freshnessExpires c = true ↔ c.state = .fresh ∧ c.fresh ≤ 1 := by
  simp [freshnessExpires]
  omega

theorem holdExpires_iff {c : SourceCtl} : holdExpires c = true ↔ c.state = .aged ∧ c.hold ≤ 1 := by
  simp [holdExpires]
  omega

theorem requalifyExpires_iff {c : SourceCtl} : requalifyExpires c = true ↔ c.state = .lapsed ∧ c.fresh = 1 := by
  simp [requalifyExpires]

/-- A source that does not lapse leaves the claim, and raises SOURCE_CHANGED for a change of state alone. -/
theorem State.settleSource_of_no_lapse (hd : s.snapDone.get r = false)
    (h : (boundaryCtl s.cal.active.holdPeriods (s.src.get r)).2.2 = false) :
    (s.settleSource r).cal = s.cal
      ∧ Raised (if (boundaryCtl s.cal.active.holdPeriods (s.src.get r)).2.1 then [.sourceChanged] else []) s (s.settleSource r) := by
  refine ⟨State.settleSource_keeps_claim fun _ _ _ => by simp [State.lapses, h], ?_⟩
  have hraised := State.settleSource_raised hd
  simpa only [State.boundaryNotices, h, Bool.false_eq_true, if_false, List.append_nil] using hraised

/-- An expiry leaves what SRC's stage makes of the state (log 7). -/
theorem State.sourceExpiry_snapshotStage (d : SourceCtl → Bool) (r : Role) (s : State) :
    (s.sourceExpiry d r).snapshotStage = s.snapshotStage := by
  unfold State.sourceExpiry
  split_ifs with h
  · obtain ⟨hr, hs, -⟩ := h
    rw [State.snapshotStage_due hr hs, State.snapshotStage_due (by simpa using hr) (by simpa using hs), State.due_settle]
  · rfl

end

/-- Settles O23: an expiry is its source's part of SRC's stage, where the stage is due and the counter runs out. -/
theorem expiriesActWhenDue : Obligations.ExpiriesActWhenDue := by
  refine ⟨fun r s h => ⟨?_, ?_, ?_⟩, fun r s hr hs hd => ⟨fun hc hf => ?_, fun hc hf => ?_, fun hc hh => ?_, fun hn => ?_, fun hn => ?_,
    fun hn => ?_⟩, ?_⟩
  · exact congrArg Host.Outcome.next (State.sourceExpiry_of_passed h)
  · exact congrArg Host.Outcome.next (State.sourceExpiry_of_passed h)
  · exact congrArg Host.Outcome.next (State.sourceExpiry_of_passed h)
  · have hb := boundaryCtl_of_aging s.cal.active.holdPeriods hc hf
    obtain ⟨hcal, hraised⟩ := State.settleSource_of_no_lapse hd (by rw [hb])
    have hfields := State.settleSource_fields hd
    rw [hb] at hraised hfields
    exact ⟨_, congrArg Host.Outcome.next (State.sourceExpiry_of_due hr hs (freshnessExpires_iff.mpr ⟨hc, hf⟩)), hcal, hraised, hfields⟩
  · have hb := boundaryCtl_of_spent s.cal.active.holdPeriods hc hf
    obtain ⟨hcal, hraised⟩ := State.settleSource_of_no_lapse hd (by rw [hb])
    have hfields := State.settleSource_fields hd
    rw [hb] at hraised hfields
    exact ⟨_, congrArg Host.Outcome.next (State.sourceExpiry_of_due hr hs (requalifyExpires_iff.mpr ⟨hc, hf⟩)), hcal, hraised, hfields⟩
  · have hb := boundaryCtl_of_lapsing s.cal.active.holdPeriods hc hh
    have hfields := State.settleSource_fields hd
    have hraised := State.settleSource_raised hd
    have hlapses : s.lapses r = true := by simp [State.lapses, hd, hb]
    simp only [State.boundaryNotices] at hraised
    rw [hb] at hraised hfields
    refine ⟨_, congrArg Host.Outcome.next (State.sourceExpiry_of_due hr hs (holdExpires_iff.mpr ⟨hc, hh⟩)), hfields,
      fun hother => ⟨State.settleSource_keeps_claim fun m hm hrole => absurd hrole (hother m hm), ?_⟩, fun m hm hrole => ⟨?_, ?_⟩⟩
    · have hnone : s.lapseNotices r = [] := by
        cases hm : s.cal.claim with
        | none => exact State.lapseNotices_of_free hm
        | some m => rw [State.lapseNotices_of_claim hm, if_neg (hother m hm)]
      simpa [hnone] using hraised
    · exact State.settleSource_loses_claim hm hrole hlapses
    · rw [State.lapseNotices_of_claim hm, if_pos hrole] at hraised
      simpa [Claim.lossNotices] using hraised
  · refine congrArg Host.Outcome.next (State.sourceExpiry_of_not fun hx => ?_)
    obtain ⟨h1, h2⟩ := freshnessExpires_iff.mp hx.2.2
    obtain hn | hn := hn
    · exact hn h1
    · omega
  · refine congrArg Host.Outcome.next (State.sourceExpiry_of_not fun hx => ?_)
    obtain ⟨h1, h2⟩ := holdExpires_iff.mp hx.2.2
    obtain hn | hn := hn
    · exact hn h1
    · omega
  · refine congrArg Host.Outcome.next (State.sourceExpiry_of_not fun hx => ?_)
    obtain ⟨h1, h2⟩ := requalifyExpires_iff.mp hx.2.2
    obtain hn | hn := hn
    · exact hn h1
    · exact hn h2
  · intro c r s t hc he
    obtain rfl | rfl | rfl := hc <;> cases he <;> exact congrArg Host.Outcome.next (State.sourceExpiry_snapshotStage _ r s)

end Sys2Proof.Machine
end

section
/-! SUPPORT. What an operation takes, and that no command of a port changes it (R15, R17, R25, R33, R100). -/

namespace Sys2Proof.Machine

/-- What the operation that is due takes: the fields that its stages read and write, the snapshot and the period copy as SRC's stage
leaves them. -/
structure Intake where
  rstN : Bool
  stage : Stage
  record : SplitRecord
  snap : Snapshot
  envCopy : PerRole Envelope
  spd : Spd
  modeCtl : ModeCtl
  request : Option Request
  seq : Seq
  split : SplitCtl
  splitOut : SplitOut
  active : CalSet
  origin : Origin

def State.intake (s : State) : Intake where
  rstN := s.rstN
  stage := s.stage
  record := s.record
  snap := if s.stage = .src then s.dueSnap else s.snap
  envCopy := if s.stage = .src then roleTable s.dueCopy else s.envCopy
  spd := s.spd
  modeCtl := s.modeCtl
  request := s.request
  seq := s.seq
  split := s.split
  splitOut := s.splitOut
  active := s.cal.active
  origin := s.cal.origin

section
variable {s t : State}

theorem State.intake_snap (h : s.stage ≠ .src) : s.intake.snap = s.snap := if_neg h
theorem State.intake_envCopy (h : s.stage ≠ .src) : s.intake.envCopy = s.envCopy := if_neg h

/-! ### Commands of a port -/

/-- Two states that agree on the sources still to be brought up to date leave the same snapshot. -/
structure SameDue (s t : State) : Prop where
  done : t.snapDone = s.snapDone
  snap : t.snap = s.snap
  copy : t.envCopy = s.envCopy
  record : t.record = s.record
  active : t.cal.active = s.cal.active
  src : ∀ r, s.snapDone.get r = false → t.src.get r = s.src.get r
  env : ∀ r, s.snapDone.get r = false → t.env.get r = s.env.get r
  vehicle : s.snapDone.get .vehicle = false → t.heldVals.vehicle = s.heldVals.vehicle
  engine : s.snapDone.get .engine = false → t.heldVals.engine = s.heldVals.engine
  motor : s.snapDone.get .motor = false → t.heldVals.motor = s.heldVals.motor
  battery : s.snapDone.get .battery = false → t.heldVals.battery = s.heldVals.battery

theorem SameDue.dueSrc (h : SameDue s t) {r : Role} (hd : s.snapDone.get r = false) : t.dueSrc r = s.dueSrc r := by
  rw [State.dueSrc_of_due hd, State.dueSrc_of_due (h.done ▸ hd), h.src r hd, h.active]

theorem SameDue.dueCopy (h : SameDue s t) (r : Role) : t.dueCopy r = s.dueCopy r := by
  unfold State.dueCopy
  rw [h.done, h.copy]
  split_ifs with hd
  · rfl
  · exact h.env r (Bool.eq_false_iff.mpr hd)

theorem ite_congr_of_not {α : Type} {b : Bool} {x y z : α} (h : b = false → y = z) : (if b then x else y) = if b then x else z := by
  cases b with
  | false => exact h rfl
  | true => rfl

theorem SameDue.dueSnap (h : SameDue s t) : t.dueSnap = s.dueSnap := by
  unfold State.dueSnap
  rw [h.done, h.snap, h.record, funext h.dueCopy]
  congr 1
  · exact congrArg roleTable (funext fun r => ite_congr_of_not fun hd => by rw [h.dueSrc hd])
  · exact ite_congr_of_not fun hd => by rw [h.dueSrc hd, h.vehicle hd]
  · exact ite_congr_of_not fun hd => by rw [h.dueSrc hd, h.engine hd]
  · exact ite_congr_of_not fun hd => by rw [h.dueSrc hd, h.motor hd]
  · exact ite_congr_of_not fun hd => by rw [h.dueSrc hd, h.battery hd]

/-- A report to a source that is up to date leaves what is due of the others. -/
theorem State.takeReport_sameDue {r : Role} (hd : s.snapDone.get r = true) (w : Words) : SameDue s (s.takeReport r w) where
  done := by simp
  snap := by simp
  copy := by simp
  record := by simp
  active := by simp
  src q hq := by
    have hne : q ≠ r := fun h => by rw [h, hd] at hq; cases hq
    simp [PerRole.get_set_ne _ _ hne]
  env := by simp
  vehicle hv := by cases r <;> simp_all [storeReport]
  engine hv := by cases r <;> simp_all [storeReport]
  motor hv := by cases r <;> simp_all [storeReport]
  battery hv := by cases r <;> simp_all [storeReport]

/-- A DECLARE for a source that is up to date leaves what is due of the others. -/
theorem State.takeDeclare_sameDue {r : Role} (hd : s.snapDone.get r = true) (w : Words) : SameDue s (s.takeDeclare r w) where
  done := by simp
  snap := by simp
  copy := by simp
  record := by simp
  active := by simp
  src q hq := by
    have hne : q ≠ r := fun h => by rw [h, hd] at hq; cases hq
    simp [PerRole.get_set_ne _ _ hne]
  env q hq := by
    have hne : q ≠ r := fun h => by rw [h, hd] at hq; cases hq
    simp [PerRole.get_set_ne _ _ hne]
  vehicle hv := by cases r <;> simp_all [reclip]
  engine hv := by cases r <;> simp_all [reclip]
  motor hv := by cases r <;> simp_all [reclip]
  battery hv := by cases r <;> simp_all [reclip]

theorem State.finishSource_intake (r : Role) (s : State) : (s.finishSource r).intake = s.intake := by
  unfold State.finishSource
  split_ifs with hs
  · have hsnap : (s.settleSource r).dueSnap = s.dueSnap := congrArg State.snap (State.due_settle r s)
    have hcopy : roleTable (s.settleSource r).dueCopy = roleTable s.dueCopy := congrArg State.envCopy (State.due_settle r s)
    simp [State.intake, hs, hsnap, hcopy]
  · rfl

/-- A source's part is made before a report or a DECLARE is taken in flight (R15, R33). -/
theorem State.finishSource_done {r : Role} (hs : s.stage = .src) : (s.finishSource r).snapDone.get r = true := by
  unfold State.finishSource
  rw [if_pos hs]
  exact State.settleSource_done_self r s

theorem State.takeReport_intake {r : Role} (hd : s.stage = .src → s.snapDone.get r = true) (w : Words) :
    (s.takeReport r w).intake = s.intake := by
  unfold State.intake
  by_cases hs : s.stage = .src
  · have hsame := State.takeReport_sameDue (hd hs) w
    simp [hs, hsame.dueSnap, funext hsame.dueCopy]
  · simp [hs]

theorem State.takeDeclare_intake {r : Role} (hd : s.stage = .src → s.snapDone.get r = true) (w : Words) :
    (s.takeDeclare r w).intake = s.intake := by
  unfold State.intake
  by_cases hs : s.stage = .src
  · have hsame := State.takeDeclare_sameDue (hd hs) w
    simp [hs, hsame.dueSnap, funext hsame.dueCopy]
  · simp [hs]

/-- Frames and PSEL leave what the operation takes. -/
theorem keptByPorts_intake (i : Intake) : KeptByPorts (fun t => t.intake = i) where
  port _ _ _ _ h := h
  notices _ _ _ _ _ _ h := h
  report r w s _ h := by
    by_cases hu : (s.src.get r).state = .undeclared
    · rwa [serveReport_of_undeclared hu]
    · rw [serveReport_of_declared hu]
      refine (State.takeReport_intake (fun hs => State.finishSource_done ?_) w).trans ((s.finishSource_intake r).trans h)
      simpa using hs
  declare r w s _ h := by
    cases ho : declareOpen s.record.mode with
    | true =>
      rw [serveDeclare_of_open ho]
      refine (State.takeDeclare_intake (fun hs => State.finishSource_done ?_) w).trans ((s.finishSource_intake r).trans h)
      simpa using hs
    | false => rwa [serveDeclare_of_closed ho]
  claim _ _ _ _ _ _ h := h

/-! ### The stages -/

/-- `t` with all that an operation takes read from `s`. -/
def State.taking (t s : State) : State :=
  { t with rstN := s.rstN, stage := s.stage, record := s.record, snap := s.snap, envCopy := s.envCopy, spd := s.spd
           modeCtl := s.modeCtl, request := s.request, seq := s.seq, split := s.split, splitOut := s.splitOut
           cal := { t.cal with active := s.cal.active, origin := s.cal.origin } }

theorem State.taking_of_intake (h : t.intake = s.intake) (hs : s.stage ≠ .src) : t = t.taking s := by
  have hstage : t.stage = s.stage := congrArg Intake.stage h
  have hsnap := congrArg Intake.snap h
  have hcopy := congrArg Intake.envCopy h
  rw [State.intake_snap (hstage ▸ hs), State.intake_snap hs] at hsnap
  rw [State.intake_envCopy (hstage ▸ hs), State.intake_envCopy hs] at hcopy
  simp only [State.intake, Intake.mk.injEq] at h
  obtain ⟨h1, h2, h3, -, -, h6, h7, h8, h9, h10, h11, h12, h13⟩ := h
  unfold State.taking
  rw [← h1, ← h2, ← h3, ← hsnap, ← hcopy, ← h6, ← h7, ← h8, ← h9, ← h10, ← h11, ← h12, ← h13]

/-- A stage that carries on from the intake alone: what is due gives the same intake, and what is not due changes nothing. -/
theorem State.stage_intake {f : State → State} {a : Stage} (hnot : ∀ s : State, ¬ (s.rstN = true ∧ s.stage = a) → f s = s)
    (ha : a ≠ .src)
    (hdue : ∀ s t : State, s.rstN = true → s.stage = a → (f (t.taking s)).intake = (f s).intake) (h : t.intake = s.intake) :
    (f t).intake = (f s).intake := by
  have hr : t.rstN = s.rstN := congrArg Intake.rstN h
  have hs : t.stage = s.stage := congrArg Intake.stage h
  by_cases hd : s.rstN = true ∧ s.stage = a
  · rw [State.taking_of_intake h (by rw [hd.2]; exact ha)]
    exact hdue s t hd.1 hd.2
  · rwa [hnot s hd, hnot t (by rwa [hr, hs])]

theorem State.speedStage_intake (h : t.intake = s.intake) : t.speedStage.intake = s.speedStage.intake :=
  State.stage_intake (a := .spd) (fun _ hn => if_neg hn) (by decide) (fun s t hr hs => by
    rw [State.speedStage_eq hr hs, State.speedStage_eq (s := t.taking s) hr hs]
    simp [State.intake, State.taking]) h

theorem State.modeStage_intake (h : t.intake = s.intake) : t.modeStage.intake = s.modeStage.intake :=
  State.stage_intake (a := .mode) (fun _ hn => if_neg hn) (by decide) (fun s t hr hs => by
    rw [State.modeStage_eq hr hs, State.modeStage_eq (s := t.taking s) hr hs]
    simp [State.intake, State.taking, State.modeInput]) h

theorem State.seqStage_intake (h : t.intake = s.intake) : t.seqStage.intake = s.seqStage.intake :=
  State.stage_intake (a := .seq) (fun _ hn => if_neg hn) (by decide) (fun s t hr hs => by
    rw [State.seqStage_eq hr hs, State.seqStage_eq (s := t.taking s) hr hs]
    simp [State.intake, State.taking, State.seqInput, State.seqOut]) h

theorem State.splitStage_intake (h : t.intake = s.intake) : t.splitStage.intake = s.splitStage.intake :=
  State.stage_intake (a := .split) (fun _ hn => if_neg hn) (by decide) (fun s t hr hs => by
    rw [State.splitStage_eq hr hs, State.splitStage_eq (s := t.taking s) hr hs]
    simp [State.intake, State.taking, State.splitInput]) h

theorem State.publishStage_intake (h : t.intake = s.intake) : t.publishStage.intake = s.publishStage.intake :=
  State.stage_intake (a := .publish) (fun _ hn => if_neg hn) (by decide) (fun s t hr hs => by
    rw [State.publishStage_eq hr hs, State.publishStage_eq (s := t.taking s) hr hs]
    simp [State.intake, State.taking, State.newRecord]) h

theorem State.dueCal_fields (s : State) : s.dueCal.active = s.cal.active ∧ s.dueCal.origin = s.cal.origin := by
  cases hm : s.cal.claim with
  | none => rw [State.dueCal_of_free hm]; exact ⟨rfl, rfl⟩
  | some m => rw [State.dueCal_of_claim hm]; split_ifs <;> exact ⟨rfl, rfl⟩

@[simp] theorem State.dueCal_active (s : State) : s.dueCal.active = s.cal.active := s.dueCal_fields.1
@[simp] theorem State.dueCal_origin (s : State) : s.dueCal.origin = s.cal.origin := s.dueCal_fields.2

theorem State.snapshotStage_intake (h : t.intake = s.intake) : t.snapshotStage.intake = s.snapshotStage.intake := by
  have hr : t.rstN = s.rstN := congrArg Intake.rstN h
  have hs : t.stage = s.stage := congrArg Intake.stage h
  by_cases hd : s.rstN = true ∧ s.stage = .src
  · obtain ⟨hrun, hsrc⟩ := hd
    rw [State.snapshotStage_due hrun hsrc, State.snapshotStage_due (hr ▸ hrun) (hs ▸ hsrc)]
    simp only [State.intake, Intake.mk.injEq, hsrc, hs.trans hsrc, if_true] at h
    simp [State.intake, State.due, h]
  · have hnot : t.snapshotStage = t := if_neg (by rwa [hr, hs])
    rwa [show s.snapshotStage = s from if_neg hd, hnot]

end

/-- A command of a port finds nothing to do in reset (R192). -/
theorem exec_port_reset {c : Instr} {p : PortId} (hc : port c = some p) {s : State} (hr : s.rstN = false) : exec c s = .next s := by
  obtain rfl | rfl | ⟨b, x, rfl⟩ | ⟨k, tag, w, rfl⟩ := forms_of_port c p hc
  · exact congrArg Host.Outcome.next (State.pselRises_reset hr _)
  · exact congrArg Host.Outcome.next (if_neg (by simp [hr]))
  · exact congrArg Host.Outcome.next (State.pselRises_reset hr _)
  · rw [exec_command]; exact congrArg Host.Outcome.next (State.pselRises_reset hr _)

/-- The state after the rest of an operation. -/
def State.finished (s : State) : State := s.snapshotStage.speedStage.modeStage.seqStage.splitStage.publishStage

theorem runs_laterStages {s u : State} (h : Runs laterStages s u) : u = s.finished := by
  obtain ⟨_, h1, _, h2, _, h3, _, h4, _, h5, _, h6, h7⟩ := h
  cases h1; cases h2; cases h3; cases h4; cases h5; cases h6
  exact h7

theorem State.finished_intake {s t : State} (h : t.intake = s.intake) : t.finished.intake = s.finished.intake :=
  publishStage_intake (splitStage_intake (seqStage_intake (modeStage_intake (speedStage_intake (snapshotStage_intake h)))))

section
variable {s : State}

theorem State.snapshotStage_past (hr : s.rstN = true) : s.snapshotStage.stage ≠ .src := by
  unfold State.snapshotStage
  split_ifs with h
  · exact nofun
  · exact fun hs => h ⟨hr, hs⟩

theorem State.speedStage_past (h : s.stage ≠ .src) : s.speedStage.stage ≠ .src := by
  unfold State.speedStage
  split_ifs <;> simp [h]

theorem State.modeStage_past (h : s.stage ≠ .src) : s.modeStage.stage ≠ .src := by
  unfold State.modeStage
  split_ifs <;> simp [h]

theorem State.seqStage_past (h : s.stage ≠ .src) : s.seqStage.stage ≠ .src := by
  unfold State.seqStage
  split_ifs <;> simp [h]

theorem State.splitStage_past (h : s.stage ≠ .src) : s.splitStage.stage ≠ .src := by
  unfold State.splitStage
  split_ifs <;> simp [h]

theorem State.publishStage_past (h : s.stage ≠ .src) : s.publishStage.stage ≠ .src := by
  unfold State.publishStage
  split_ifs <;> simp [h]

theorem State.finished_past (hr : s.rstN = true) : s.finished.stage ≠ .src :=
  publishStage_past (splitStage_past (seqStage_past (modeStage_past (speedStage_past (snapshotStage_past hr)))))

end

/-- Settles O20: a command of a port leaves what the operation takes, and each stage carries on from that alone. -/
theorem requestInFlightLeavesTheRecord : Obligations.RequestInFlightLeavesTheRecord := by
  intro c s t u v hc _ he hu hv
  obtain ⟨p, hp⟩ := Option.ne_none_iff_exists'.mp hc
  have hintake : t.intake = s.intake := (keptByPorts_intake s.intake).exec_port hp rfl he
  rw [runs_laterStages hu, runs_laterStages hv]
  cases hr : s.rstN with
  | false =>
    rw [exec_port_reset hp hr] at he
    cases he
    exact ⟨rfl, rfl, rfl, rfl, rfl, rfl, rfl, rfl, rfl⟩
  | true =>
    have hsame := State.taking_of_intake (State.finished_intake hintake) (State.finished_past hr)
    rw [hsame]
    exact ⟨rfl, rfl, rfl, rfl, rfl, rfl, rfl, rfl, rfl⟩

end Sys2Proof.Machine
end

section
/-! SUPPORT. The speed unit: the edge filter, the pulse speed, the plausibility check and the selection (R38 to R49). -/

namespace Sys2Proof.Machine

/-! ### The edge filter (R38 to R40) -/

theorem CalSet.rejectorOn_iff {c : CalSet} : c.rejectorOn = true ↔ c.pulseOptions = 0 ∨ c.pulseOptions = 1 := by
  simp [CalSet.rejectorOn]

theorem CalSet.countsRising_iff {c : CalSet} : c.countsRising = true ↔ c.pulseOptions = 1 ∨ c.pulseOptions = 3 := by
  simp [CalSet.countsRising]

section
variable {c : CalSet} {level : Bool} {u : Spd}

theorem Spd.sample_of_same (h : level = u.filtered) : u.sample c level = { u with candidate := 0 } := by simp [Spd.sample, h]

theorem Spd.sample_of_candidate (h : level ≠ u.filtered) (hr : c.rejectorOn = true) (hc : u.candidate < 2) :
    u.sample c level = { u with candidate := u.candidate + 1 } := by
  simp [Spd.sample, h, hr]
  omega

theorem Spd.sample_of_accepted (h : level ≠ u.filtered) (hr : c.rejectorOn = true → 2 ≤ u.candidate) :
    u.sample c level = u.edge c.countsRising level := by
  unfold Spd.sample
  split_ifs with hon hs hc hs'
  · simp [h] at hs
  · rfl
  · exact absurd (hr hon) hc
  · simp [h] at hs'
  · rfl

/-- Two samples at a new level are two candidates (R38). -/
theorem Spd.sample_twice (h : level ≠ u.filtered) (hr : c.rejectorOn = true) (hc : u.candidate = 0) :
    (u.sample c level).sample c level = { u with candidate := 2 } := by
  have hfirst : u.sample c level = { u with candidate := 1 } := by
    rw [Spd.sample_of_candidate h hr (by omega), hc]
  rw [hfirst]
  exact Spd.sample_of_candidate h hr Nat.one_lt_two

/-- An accepted edge counts if it has the counted polarity (R40). -/
theorem Spd.edge_count (c : CalSet) (level : Bool) (u : Spd) :
    let counted : Prop :=
      if level then c.pulseOptions = 1 ∨ c.pulseOptions = 3 else ¬ (c.pulseOptions = 1 ∨ c.pulseOptions = 3)
    (u.edge c.countsRising level).count = (u.count + 1) ⊓ 255 ∧ counted
      ∨ (u.edge c.countsRising level).count = u.count ∧ ¬ counted := by
  simp only [← CalSet.countsRising_iff, Spd.edge]
  cases level <;> cases c.countsRising <;> simp [min_comm]

end

section
variable {level : Bool} {s : State} (hr : s.rstN = true)
include hr

theorem State.samplePin_eq : s.samplePin level =
    { s with spdPin := level, sampleDiv := Config.sampleReload, spd := s.spd.sample s.cal.active level } := if_pos hr

/-- Three samples go through the filter one after another. -/
theorem runs_samples {l m n : Bool} {t : State} (h : Runs [.spdSample l, .spdSample m, .spdSample n] s t) :
    t.spd = ((s.spd.sample s.cal.active l).sample s.cal.active m).sample s.cal.active n := by
  obtain ⟨_, h1, _, h2, _, h3, rfl⟩ := h
  cases h1; cases h2; cases h3
  have hl : (s.samplePin l).rstN = true := by simp [hr]
  have hm : ((s.samplePin l).samplePin m).rstN = true := by simp [hr]
  rw [State.samplePin_eq hm, State.samplePin_eq hl, State.samplePin_eq hr]

end

/-- Settles O26, from the filter's three cases. -/
theorem spdSampleFiltersEdges : Obligations.SpdSampleFiltersEdges := by
  intro level s hr
  refine ⟨⟨_, congrArg Host.Outcome.next (State.samplePin_eq hr), rfl, Spd.sample_of_same, fun h ho => ?_, fun h ho hc => ?_,
    fun h ho => ?_⟩, fun h ho hc => ⟨fun t ht => ?_, fun t ht => ?_⟩⟩
  · exact Spd.sample_of_candidate h (CalSet.rejectorOn_iff.mpr ho)
  · dsimp only
    rw [Spd.sample_of_accepted h fun _ => hc]
    exact ⟨rfl, Spd.edge_count _ _ _⟩
  · dsimp only
    rw [Spd.sample_of_accepted h fun hon => absurd (CalSet.rejectorOn_iff.mp hon) ho]
    exact ⟨rfl, Spd.edge_count _ _ _⟩
  · have hback : (!level) = s.spd.filtered := Bool.not_eq.mpr h
    rw [runs_samples hr ht, Spd.sample_twice h (CalSet.rejectorOn_iff.mpr ho) hc, Spd.sample_of_same (by exact hback), ← hc]
  · rw [runs_samples hr ht, Spd.sample_twice h (CalSet.rejectorOn_iff.mpr ho) hc,
      Spd.sample_of_accepted (by exact h) fun _ => le_rfl]
    exact ⟨rfl, Spd.edge_count _ _ s.spd⟩

/-! ### The unit's stage (R41 to R49) -/

/-- The pulse speed is the counts' sum by 6000, divided and rounded down, at most 9000 (R42). -/
theorem pulseSpeed_eq_floor (w teeth : Nat) (ring : List Nat) :
    pulseSpeed w teeth ring = min 9000 (⌊(((ring.take w).sum * 6000 : ℕ) : ℚ) / ((teeth * w : ℕ) : ℚ)⌋) := by
  rw [Rat.floor_natCast_div_natCast]
  rfl

theorem disagrees_iff (a b : Int) : disagrees a b = true ↔ max 150 (max a b / 8) < |a - b| := by
  simp [disagrees]

section
variable {d : Nat} {u : Spd}

theorem Spd.judge_of_agreed (h : u.check = .plausible) : u.judge d false = ({ u with disagree := 0 }, false) := by
  simp [Spd.judge, h]

theorem Spd.judge_of_doubted (h : u.check = .plausible) (hd : min 100 (u.disagree + 1) < d) :
    u.judge d true = ({ u with disagree := min 100 (u.disagree + 1) }, false) := by
  simp [Spd.judge, h]
  omega

theorem Spd.judge_of_failed (h : u.check = .plausible) (hd : d ≤ min 100 (u.disagree + 1)) :
    u.judge d true = ({ u with check := .implausible, disagree := 0 }, true) := by
  simp only [Spd.judge, h, if_true, if_pos hd]

theorem Spd.judge_of_disagreed (h : u.check = .implausible) : u.judge d true = ({ u with agree := 0 }, false) := by
  simp [Spd.judge, h]

theorem Spd.judge_of_recovering (h : u.check = .implausible) (hd : min 100 (u.agree + 1) < d) :
    u.judge d false = ({ u with agree := min 100 (u.agree + 1) }, false) := by
  simp [Spd.judge, h]
  omega

theorem Spd.judge_of_recovered (h : u.check = .implausible) (hd : d ≤ min 100 (u.agree + 1)) :
    u.judge d false = ({ u with check := .plausible, agree := 0 }, true) := by
  simp only [Spd.judge, h, Bool.false_eq_true, if_false, if_pos hd]

/-- The check writes its state and its two runs and nothing else (R45). -/
theorem Spd.judge_fields (d : Nat) (b : Bool) (u : Spd) : (u.judge d b).1 =
    { u with check := (u.judge d b).1.check, disagree := (u.judge d b).1.disagree, agree := (u.judge d b).1.agree } := by
  unfold Spd.judge
  split <;> split_ifs <;> rfl

end

/-- With a motor speed the selection is that speed while PLAUSIBLE, else the larger (R48). -/
theorem Spd.selected_some (n : Int) (u : Spd) : u.selected (some n) = if u.check = .plausible then n else max u.nPulse n := by
  unfold Spd.selected
  cases u.check <;> rfl

/-- The unit with the period's count entered and the pulse speed computed (R41, R42). -/
def Spd.counted (c : CalSet) (u : Spd) : Spd :=
  { u with ring := ringEnter u.boundaryCount u.ring, nPulse := pulseSpeed c.window c.teeth (ringEnter u.boundaryCount u.ring) }

/-- The unit with a motor speed taken for the comparison (R44, R47). -/
def Spd.ready (c : CalSet) (n : Int) (u : Spd) : Spd := { u.counted c with nMotorUsed := n, absent := false }

/-- The comparison with a motor speed (R44, R45). -/
def Spd.judged (c : CalSet) (n : Int) (u : Spd) : Spd × Bool :=
  (u.ready c n).judge c.plausDwell (disagrees (u.counted c).nPulse n)

section
variable (c : CalSet) (n : Int) (u : Spd)

/-- The stage with the motor source LAPSED (R47). -/
theorem Spd.stage_none : u.stage c none =
    ({ u.counted c with nMotorUsed := 0, absent := true, nSel := (u.counted c).nPulse
                        nEff := max (u.counted c).nPulse c.nFloor }, false) := rfl

/-- The stage with a motor speed (R44 to R48). -/
theorem Spd.stage_some : u.stage c (some n) =
    let sel := if (u.judged c n).1.check = .plausible then n else max (u.judged c n).1.nPulse n
    ({ (u.judged c n).1 with nSel := sel, nEff := max sel c.nFloor }, (u.judged c n).2) := by
  rw [← Spd.selected_some]
  rfl

theorem Spd.judged_fields : (u.judged c n).1 =
    { u.counted c with nMotorUsed := n, absent := false, check := (u.judged c n).1.check
                       disagree := (u.judged c n).1.disagree, agree := (u.judged c n).1.agree } :=
  Spd.judge_fields _ _ _

/-- What the stage leaves whatever the motor source reads (R41, R42, R49). -/
theorem Spd.stage_common (m : Option Int) :
    let v := (u.stage c m).1
    v = { u with ring := v.ring, nPulse := v.nPulse, nMotorUsed := v.nMotorUsed, absent := v.absent, check := v.check
                 disagree := v.disagree, agree := v.agree, nSel := v.nSel, nEff := v.nEff }
      ∧ v.ring = (u.boundaryCount :: u.ring).take 8 ∧ v.nPulse = (u.counted c).nPulse ∧ v.nEff = max v.nSel c.nFloor := by
  cases m with
  | none => exact ⟨rfl, rfl, rfl, rfl⟩
  | some n =>
    rw [Spd.stage_some, Spd.judged_fields]
    exact ⟨rfl, rfl, rfl, rfl⟩

end

/-- Settles O27: the stage without and with a motor speed, and the six cases of a verdict. -/
theorem speedUnitStageSelectsTheSpeed : Obligations.SpeedUnitStageSelectsTheSpeed := by
  intro s hr hs
  have hstage := State.speedStage_eq hr hs
  have hspd : s.speedStage.spd = (s.spd.stage s.cal.active s.snap.motorSpeed).1 := by rw [hstage, State.broadcastIf_spd]
  have hraised : Raised (if (s.spd.stage s.cal.active s.snap.motorSpeed).2 then [.speedCheckChanged] else []) s s.speedStage :=
    State.speedStage_raised hr hs
  refine ⟨_, rfl, ?_⟩
  refine ⟨?_, ?_, ?_, ?_, ?_, fun hl => ?_, fun n hn hl => ?_⟩
  · rw [hspd, hstage]
    exact State.broadcastIf_eq _ _ _
  · rw [hspd]
    exact (Spd.stage_common _ _ _).1
  · rw [hspd]
    exact (Spd.stage_common _ _ _).2.1
  · rw [hspd, (Spd.stage_common _ _ _).2.1, (Spd.stage_common _ _ _).2.2.1]
    exact pulseSpeed_eq_floor _ _ _
  · rw [hspd]
    exact (Spd.stage_common _ _ _).2.2.2
  · have hm : s.snap.motorSpeed = none := if_pos hl
    rw [hm, Spd.stage_none] at hspd hraised
    rw [hspd]
    exact ⟨rfl, rfl, rfl, rfl, rfl, rfl, hraised⟩
  · have hm : s.snap.motorSpeed = some n := (if_neg hl).trans hn
    have hfields := Spd.judged_fields s.cal.active n s.spd
    rw [hm, Spd.stage_some] at hspd hraised
    have hverdict (b : Bool) (h : disagrees (s.spd.counted s.cal.active).nPulse n = b) : s.spd.judged s.cal.active n =
        (s.spd.ready s.cal.active n).judge s.cal.active.plausDwell b := by rw [← h]; rfl
    have hpulse : s.speedStage.spd.nPulse = (s.spd.counted s.cal.active).nPulse := by
      rw [hspd, hfields]
    dsimp only
    rw [hpulse, ← disagrees_iff]
    refine ⟨?_, ?_, ?_, fun hc hd => ?_, fun hc hd hrun => ?_, fun hc hd hrun => ?_, fun hc hd => ?_, fun hc hd hrun => ?_,
      fun hc hd hrun => ?_⟩
    · rw [hspd, hfields]
    · rw [hspd, hfields]
    · rw [hspd, hfields]
    · rw [hverdict false (Bool.eq_false_iff.mpr hd), Spd.judge_of_agreed (u := s.spd.ready s.cal.active n) hc] at hspd hraised
      rw [hspd]
      exact ⟨hc, rfl, rfl, hraised⟩
    · rw [hverdict true hd, Spd.judge_of_doubted (u := s.spd.ready s.cal.active n) hc hrun] at hspd hraised
      rw [hspd]
      exact ⟨hc, rfl, rfl, hraised⟩
    · rw [hverdict true hd, Spd.judge_of_failed (u := s.spd.ready s.cal.active n) hc hrun] at hspd hraised
      rw [hspd]
      exact ⟨rfl, rfl, rfl, hraised⟩
    · rw [hverdict true hd, Spd.judge_of_disagreed (u := s.spd.ready s.cal.active n) hc] at hspd hraised
      rw [hspd]
      exact ⟨hc, rfl, rfl, hraised⟩
    · rw [hverdict false (Bool.eq_false_iff.mpr hd), Spd.judge_of_recovering (u := s.spd.ready s.cal.active n) hc hrun] at hspd hraised
      rw [hspd]
      exact ⟨hc, rfl, rfl, hraised⟩
    · rw [hverdict false (Bool.eq_false_iff.mpr hd), Spd.judge_of_recovered (u := s.spd.ready s.cal.active n) hc hrun] at hspd hraised
      rw [hspd]
      exact ⟨rfl, rfl, rfl, hraised⟩

end Sys2Proof.Machine
end

section
/-! SUPPORT. MODE's decision stage, in the words of chapter 4's rules (R51 to R72). -/

namespace Sys2Proof.Machine

/-! ### The conditions of chapter 4 as the model evaluates them -/

section
variable {s : State}

theorem State.alive_iff {r : Role} : s.snap.alive r = true ↔ s.Present r := by simp [Snapshot.alive, State.Present]

theorem State.electricPath_iff : s.snap.electricPath = true ↔ s.ElectricPath := by
  simp [Snapshot.electricPath, State.alive_iff, State.ElectricPath]

/-- The cool-off cut is made where it is due (R55). -/
theorem State.cutCoolOff_of_due (h : s.seq.avail = .cooling ∧ ¬ s.ElectricPath ∧ s.Present .engine) :
    s.seq.cutCoolOff s.snap = { s.seq with avail := .available, coolOff := 0 } := by
  obtain ⟨hcool, hpath, hengine⟩ := h
  exact if_pos ⟨hcool, Bool.eq_false_iff.mpr (mt State.electricPath_iff.mp hpath), State.alive_iff.mpr hengine⟩

theorem State.cutCoolOff_of_not (h : ¬ (s.seq.avail = .cooling ∧ ¬ s.ElectricPath ∧ s.Present .engine)) :
    s.seq.cutCoolOff s.snap = s.seq := by
  refine if_neg fun ⟨hcool, hpath, hengine⟩ => h ⟨hcool, fun hp => ?_, State.alive_iff.mp hengine⟩
  rw [State.electricPath_iff.mpr hp] at hpath
  cases hpath

theorem State.enginePath_iff : s.modeInput.enginePath = true ↔ s.EnginePath := by
  unfold ModeInput.enginePath State.EnginePath
  simp only [State.modeInput, Bool.and_eq_true, beq_iff_eq, State.alive_iff]
  refine and_congr_right fun hengine => ?_
  by_cases hcut : s.seq.avail = .cooling ∧ ¬ s.ElectricPath ∧ s.Present .engine
  · rw [State.cutCoolOff_of_due hcut]
    exact iff_of_true rfl (.inr ⟨hcut.1, hcut.2.1⟩)
  · rw [State.cutCoolOff_of_not hcut]
    exact ⟨.inl, fun h => h.resolve_right fun hc => hcut ⟨hc.1, hc.2, hengine⟩⟩

theorem State.breach_iff : s.modeInput.breach = true ↔ s.Breach := by
  simp only [ModeInput.breach, ModeInput.atReserve, State.Breach, ← State.electricPath_iff, Bool.or_eq_true, decide_eq_true_eq,
    Bool.not_eq_true', Bool.not_eq_true]
  exact Iff.rfl

theorem State.zoneEffective_iff : s.modeInput.zoneEffective = true ↔ s.ZoneEffective := by
  simp only [ModeInput.zoneEffective, State.ZoneEffective, ← State.breach_iff]
  simp [State.modeInput]

theorem State.overruled_iff : s.modeInput.overruled = true ↔ s.snap.vehicle.zone = true ∧ s.Breach := by
  simp only [ModeInput.overruled, ← State.breach_iff]
  simp [State.modeInput]

theorem State.conflict_iff : s.modeInput.conflict = true ↔ s.snap.engine.force = true ∧ s.ZoneEffective := by
  rw [← State.zoneEffective_iff]
  simp only [ModeInput.conflict, ModeInput.zoneEffective]
  simp only [State.modeInput, Bool.and_eq_true]
  tauto

theorem State.safeEntry_iff : s.modeInput.safeEntry = true ↔ s.SafeEntry := by
  simp only [ModeInput.safeEntry, State.SafeEntry, ← State.enginePath_iff, ← State.electricPath_iff, ← State.alive_iff]
  simp [State.modeInput]

theorem State.startRun_eq : s.modeInput.startRun s.modeCtl.startRun = s.startRunNow := by
  simp only [ModeInput.startRun, ModeInput.startCondition, decide_eq_true_eq]
  rfl

theorem State.stopCondition_iff : s.modeInput.stopCondition = true ↔ s.DwellStop := by
  simp only [ModeInput.stopCondition, State.DwellStop, ← State.electricPath_iff, Bool.and_eq_true, decide_eq_true_eq,
    Bool.not_eq_true', and_assoc]
  exact Iff.rfl

theorem State.gatedTrigger_iff : s.modeInput.gatedTrigger s.startRunNow = true ↔ s.GatedTrigger := by
  simp only [ModeInput.gatedTrigger, ModeInput.demandTriggers, State.GatedTrigger, ← State.zoneEffective_iff, Bool.and_eq_true,
    Bool.or_eq_true, decide_eq_true_eq, Bool.not_eq_true', Bool.not_eq_true, or_assoc]
  exact and_comm

theorem State.trigger_iff : s.modeInput.trigger s.startRunNow = true ↔ s.Trigger := by
  simp only [ModeInput.trigger, ModeInput.atReserve, State.Trigger, ← State.gatedTrigger_iff, ← State.electricPath_iff,
    Bool.or_eq_true, decide_eq_true_eq, Bool.not_eq_true', Bool.not_eq_true, or_assoc]
  exact Iff.rfl

theorem State.engineFault_iff : s.snap.engineFault = true ↔ s.snap.engine.state = .fault := by simp [Snapshot.engineFault]

theorem State.immediateCause_iff : s.modeInput.immediateCause = true ↔ s.ImmediateStop := by
  simp only [ModeInput.immediateCause, State.ImmediateStop, ← State.safeEntry_iff, ← State.zoneEffective_iff,
    ← State.engineFault_iff]
  simp [State.modeInput, or_assoc]

theorem Snapshot.allFresh_iff (sn : Snapshot) : sn.state = .all .fresh ↔ ∀ r, sn.state.get r = .fresh := by
  refine ⟨fun h r => by rw [h]; cases r <;> rfl, fun h => PerRole.ext_get fun r => ?_⟩
  rw [h r]
  cases r <;> rfl

end

/-! ### What a decision leaves -/

section
variable (i : ModeInput) (k : StopKind) (d : StopDest) (startRun run : Nat)

/-- A decision outside STOPPING names no stop kind and no destination (R51, Note 1). -/
theorem ModeInput.decision_stop {m : Mode} (h : (i.decision k d startRun run m).mode ≠ .stopping) :
    (i.decision k d startRun run m).kind = .none ∧ (i.decision k d startRun run m).dest = .none := by
  revert h
  cases m with
  | init => unfold ModeInput.decision ModeInput.decideInit; split_ifs <;> simp [Decision.plain]
  | parked => unfold ModeInput.decision ModeInput.decideParked; split_ifs <;> simp [Decision.plain]
  | electric => unfold ModeInput.decision ModeInput.decideElectric; split_ifs <;> simp [Decision.plain]
  | starting => unfold ModeInput.decision ModeInput.decideStarting; split_ifs <;> simp [Decision.plain]
  | hybrid => unfold ModeInput.decision ModeInput.decideCoupled; split_ifs <;> simp [Decision.plain]
  | charge => unfold ModeInput.decision ModeInput.decideCoupled; split_ifs <;> simp [Decision.plain]
  | stopping => unfold ModeInput.decision ModeInput.decideStopping; split_ifs <;> simp [Decision.plain]
  | safe => unfold ModeInput.decision ModeInput.decideSafe; split_ifs <;> simp [Decision.plain]

/-- In a coupled mode the stop dwell run is kept while the decision stays coupled, else it is 0 (R60). -/
theorem ModeInput.decision_stopRun_of_coupled {m : Mode} (h : m.coupled = true) : (i.decision k d startRun run m).stopRun =
    if (i.decision k d startRun run m).mode.coupled then run else 0 := by
  cases m with
  | hybrid => unfold ModeInput.decision ModeInput.decideCoupled; split_ifs <;> simp_all [Decision.plain, Mode.coupled]
  | charge => unfold ModeInput.decision ModeInput.decideCoupled; split_ifs <;> simp_all [Decision.plain, Mode.coupled]
  | init => cases h
  | parked => cases h
  | electric => cases h
  | starting => cases h
  | stopping => cases h
  | safe => cases h

end

theorem Mode.coupled_iff {m : Mode} : m.coupled = true ↔ m = .hybrid ∨ m = .charge := by simp [Mode.coupled]

section
variable {s : State}

/-- The stop dwell run with this snapshot, before the decision (R60). -/
def State.stopRunNow (s : State) : Nat := s.modeInput.stopRun s.modeCtl.mode s.modeCtl.stopRun

theorem State.stopRunNow_of_counted (hm : s.modeCtl.mode = .hybrid ∨ s.modeCtl.mode = .charge) (hd : s.DwellStop) :
    s.stopRunNow = min 3000 (s.modeCtl.stopRun + 1) := by
  simp [State.stopRunNow, ModeInput.stopRun, Mode.coupled_iff.mpr hm, State.stopCondition_iff.mpr hd]

theorem State.stopRunNow_of_not (h : ¬ ((s.modeCtl.mode = .hybrid ∨ s.modeCtl.mode = .charge) ∧ s.DwellStop)) :
    s.stopRunNow = 0 := by
  unfold State.stopRunNow ModeInput.stopRun
  rw [if_neg]
  rwa [Bool.and_eq_true, Mode.coupled_iff, State.stopCondition_iff]

/-- MODE's decision in a state (R52). -/
def State.decided (s : State) : Decision :=
  s.modeInput.decision s.modeCtl.stopKind s.modeCtl.stopDest s.startRunNow s.stopRunNow s.modeCtl.mode

theorem State.after_eq : s.modeCtl.after s.modeInput =
    ({ mode := s.decided.mode, stopKind := s.decided.kind, stopDest := s.decided.dest, startRun := s.startRunNow
       stopRun := s.decided.stopRun, zoneOverruled := s.modeInput.overruled, overrideConflict := s.modeInput.conflict
       electricPath := s.snap.electricPath }, s.decided.request) := by
  unfold ModeCtl.after State.decided State.stopRunNow
  rw [State.startRun_eq]
  rfl

/-- MODE's stage: the decision, the flags and the runs (R52). -/
theorem State.modeStage_modeCtl (hr : s.rstN = true) (hs : s.stage = .mode) : s.modeStage.modeCtl =
    { mode := s.decided.mode, stopKind := s.decided.kind, stopDest := s.decided.dest, startRun := s.startRunNow
      stopRun := s.decided.stopRun, zoneOverruled := s.modeInput.overruled, overrideConflict := s.modeInput.conflict
      electricPath := s.snap.electricPath } := by
  rw [State.modeStage_eq hr hs, State.after_eq]
  simp

theorem State.modeStage_request (hr : s.rstN = true) (hs : s.stage = .mode) : s.modeStage.request = s.decided.request := by
  rw [State.modeStage_eq hr hs, State.after_eq]
  simp

theorem State.modeStage_seq (hr : s.rstN = true) (hs : s.stage = .mode) : s.modeStage.seq = s.seq.cutCoolOff s.snap := by
  rw [State.modeStage_eq hr hs]
  simp

/-- The stop dwell run after the decision (R60). -/
theorem State.decided_stopRun_of_kept (hm : s.modeCtl.mode = .hybrid ∨ s.modeCtl.mode = .charge)
    (hd : s.decided.mode = .hybrid ∨ s.decided.mode = .charge) : s.decided.stopRun = s.stopRunNow := by
  have hrun := s.modeInput.decision_stopRun_of_coupled s.modeCtl.stopKind s.modeCtl.stopDest s.startRunNow s.stopRunNow
    (Mode.coupled_iff.mpr hm)
  exact hrun.trans (if_pos (Mode.coupled_iff.mpr hd))

theorem State.decided_stopRun_of_left
    (h : ¬ ((s.modeCtl.mode = .hybrid ∨ s.modeCtl.mode = .charge) ∧ (s.decided.mode = .hybrid ∨ s.decided.mode = .charge)
      ∧ s.DwellStop)) : s.decided.stopRun = 0 := by
  by_cases hcount : (s.modeCtl.mode = .hybrid ∨ s.modeCtl.mode = .charge) ∧ s.DwellStop
  · obtain ⟨hm, hstop⟩ := hcount
    have hrun := s.modeInput.decision_stopRun_of_coupled s.modeCtl.stopKind s.modeCtl.stopDest s.startRunNow s.stopRunNow
      (Mode.coupled_iff.mpr hm)
    exact hrun.trans (if_neg fun hd => h ⟨hm, Mode.coupled_iff.mp hd, hstop⟩)
  · have hzero := State.stopRunNow_of_not hcount
    obtain hrun | hrun := s.modeInput.decision_stopRun s.modeCtl.stopKind s.modeCtl.stopDest s.startRunNow s.stopRunNow
      s.modeCtl.mode
    · exact hrun.trans hzero
    · exact hrun

end

/-- Settles O28: the fields that MODE's stage leaves, each by the condition it evaluates. -/
theorem modeDecisionFlagsAndRuns : Obligations.ModeDecisionFlagsAndRuns := by
  intro s hr hs
  have hctl := State.modeStage_modeCtl hr hs
  refine ⟨_, rfl, ?_, fun h => ?_, fun h => ?_, ?_, ?_, ?_, ?_, ?_, ?_, ?_, ?_⟩
  · rw [hctl, State.modeStage_request hr hs, State.modeStage_seq hr hs, State.modeStage_eq hr hs, State.after_eq]
    exact (State.broadcastIf_eq _ _ _).trans (by rw [State.broadcastIf_eq])
  · rw [State.modeStage_seq hr hs, State.cutCoolOff_of_due h]
  · rw [State.modeStage_seq hr hs, State.cutCoolOff_of_not h]
  · rw [hctl]; exact State.overruled_iff
  · rw [hctl]; exact State.conflict_iff
  · rw [hctl]; exact State.electricPath_iff
  · rw [hctl]
    simpa only [Bool.and_eq_true, Bool.not_eq_true', Bool.not_eq_true] using State.modeStage_raised hr hs
  · rw [hctl]
  · rw [hctl]
    exact fun ⟨hm, hd, hstop⟩ => (State.decided_stopRun_of_kept hm hd).trans (State.stopRunNow_of_counted hm hstop)
  · rw [hctl]
    exact fun h => State.decided_stopRun_of_left h
  · rw [hctl]
    exact fun h => s.modeInput.decision_stop _ _ _ _ h

/-! ### The decision in each mode, case by case (R61 to R72) -/

section
variable {i : ModeInput} {k : StopKind} {d : StopDest} {startRun run : Nat} {m : Mode}

theorem ModeInput.decideInit_ready (h : i.snap.state = .all .fresh ∧ i.snap.vehicle.drive = false) :
    i.decideInit run = .plain .parked run := if_pos h

theorem ModeInput.decideInit_waits (h : ¬ (i.snap.state = .all .fresh ∧ i.snap.vehicle.drive = false)) :
    i.decideInit run = .plain .init run := if_neg h

theorem ModeInput.decideParked_safe (h : i.safeEntry = true) : i.decideParked run = .plain .safe run := if_pos h

theorem ModeInput.decideParked_else (h : ¬ i.safeEntry = true) : i.decideParked run =
    .plain (if i.snap.vehicle.drive then .electric else .parked) run :=
  (if_neg h).trans (by cases i.snap.vehicle.drive <;> rfl)

theorem ModeInput.decideElectric_safe (h : i.safeEntry = true) : i.decideElectric startRun run = .plain .safe run := if_pos h

theorem ModeInput.decideElectric_parks (h : ¬ i.safeEntry = true) (hd : i.snap.vehicle.drive = false) :
    i.decideElectric startRun run = .plain .parked run := (if_neg h).trans (if_pos (by simp [hd]))

theorem ModeInput.decideElectric_starts (h : ¬ i.safeEntry = true) (hd : i.snap.vehicle.drive = true)
    (hp : i.enginePath = true) (ht : i.trigger startRun = true) :
    i.decideElectric startRun run = { Decision.plain .starting run with request := some .start } :=
  (if_neg h).trans ((if_neg (by simp [hd])).trans (if_pos (by simp [hp, ht])))

theorem ModeInput.decideElectric_stays (h : ¬ i.safeEntry = true) (hd : i.snap.vehicle.drive = true)
    (hn : ¬ (i.enginePath = true ∧ i.trigger startRun = true)) : i.decideElectric startRun run = .plain .electric run :=
  (if_neg h).trans ((if_neg (by simp [hd])).trans (if_neg (by rwa [Bool.and_eq_true])))

theorem ModeInput.decideStarting_safe (h : i.safeEntry = true) :
    i.decideStarting run = { Decision.plain .safe run with request := some .abandon } := if_pos h

theorem ModeInput.decideStarting_parks (h : ¬ i.safeEntry = true) (hd : i.snap.vehicle.drive = false) :
    i.decideStarting run = ⟨.stopping, .immediate, .parked, run, some .abandon⟩ := (if_neg h).trans (if_pos (by simp [hd]))

theorem ModeInput.decideStarting_zone (h : ¬ i.safeEntry = true) (hd : i.snap.vehicle.drive = true)
    (hz : i.zoneEffective = true) : i.decideStarting run = ⟨.stopping, .immediate, .electric, run, some .abandon⟩ :=
  (if_neg h).trans ((if_neg (by simp [hd])).trans (if_pos hz))

theorem ModeInput.decideStarting_stays (h : ¬ i.safeEntry = true) (hd : i.snap.vehicle.drive = true)
    (hz : ¬ i.zoneEffective = true) : i.decideStarting run = .plain .starting run :=
  (if_neg h).trans ((if_neg (by simp [hd])).trans (if_neg hz))

theorem ModeInput.decideCoupled_safe (hi : i.immediateCause = true) (h : i.safeEntry = true) :
    i.decideCoupled m run = ⟨.safe, .none, .none, 0, some i.stopRequest⟩ := (if_pos hi).trans (if_pos h)

theorem ModeInput.decideCoupled_stops (hi : i.immediateCause = true) (h : ¬ i.safeEntry = true) : i.decideCoupled m run =
    ⟨.stopping, .immediate, if i.snap.vehicle.drive then .electric else .parked, 0, some i.stopRequest⟩ :=
  (if_pos hi).trans (if_neg h)

theorem ModeInput.decideCoupled_dwells (hi : ¬ i.immediateCause = true) (h : i.cal.stopDwell ≤ run) :
    i.decideCoupled m run = ⟨.stopping, .dwell, .electric, 0, some .stopUnload⟩ := (if_neg hi).trans (if_pos h)

theorem ModeInput.decideHybrid_drives (hi : ¬ i.immediateCause = true) (h : ¬ i.cal.stopDwell ≤ run) :
    i.decideCoupled .hybrid run = .plain (if i.snap.battery.soc < i.cal.chargeOn then .charge else .hybrid) run := by
  unfold ModeInput.decideCoupled
  rw [if_neg hi, if_neg h]
  split_ifs <;> simp_all

theorem ModeInput.decideCharge_drives (hi : ¬ i.immediateCause = true) (h : ¬ i.cal.stopDwell ≤ run) :
    i.decideCoupled .charge run = .plain (if i.cal.chargeOff < i.snap.battery.soc then .hybrid else .charge) run := by
  unfold ModeInput.decideCoupled
  rw [if_neg hi, if_neg h]
  split_ifs <;> simp_all

theorem ModeInput.decideStopping_safe (h : i.safeEntry = true) : i.decideStopping k d startRun run = .plain .safe run := if_pos h

theorem ModeInput.decideStopping_cancels (h : ¬ i.safeEntry = true)
    (hc : i.seqState = .unload ∧ i.stopKindNow k = .dwell ∧ i.enginePath = true ∧ i.gatedTrigger startRun = true) :
    i.decideStopping k d startRun run = { Decision.plain (coupledMode i.snap.battery.soc i.cal) run with request := some .cancel } :=
  (if_neg h).trans (if_pos hc)

theorem ModeInput.decideStopping_stays (h : ¬ i.safeEntry = true)
    (hc : ¬ (i.seqState = .unload ∧ i.stopKindNow k = .dwell ∧ i.enginePath = true ∧ i.gatedTrigger startRun = true)) :
    i.decideStopping k d startRun run = ⟨.stopping, i.stopKindNow k, i.stopDestNow d, run, none⟩ := (if_neg h).trans (if_neg hc)

theorem ModeInput.decideSafe_leaves (h : i.snap.state.vehicle = .fresh ∧ (i.snap.electricPath || i.enginePath) = true
    ∧ i.snap.vehicle.drive = false ∧ i.seqState = .off) : i.decideSafe run = .plain .parked run := if_pos h

theorem ModeInput.decideSafe_stays (h : ¬ (i.snap.state.vehicle = .fresh ∧ (i.snap.electricPath || i.enginePath) = true
    ∧ i.snap.vehicle.drive = false ∧ i.seqState = .off)) : i.decideSafe run = .plain .safe run := if_neg h

end

theorem State.decided_of {s : State} {m : Mode} (hm : s.modeCtl.mode = m) : s.decided =
    s.modeInput.decision s.modeCtl.stopKind s.modeCtl.stopDest s.startRunNow s.stopRunNow m := by rw [← hm]; rfl

/-- Settles O29, from the decisions of INIT, PARKED and SAFE. -/
theorem decisionInStandingModes : Obligations.DecisionInStandingModes := by
  intro s hr hs
  refine ⟨_, rfl, ?_⟩
  rw [State.modeStage_modeCtl hr hs, State.modeStage_request hr hs]
  refine ⟨fun hm => ?_, fun hm => ?_, fun hm => ?_⟩
  · have hd : s.decided = s.modeInput.decideInit s.stopRunNow := State.decided_of hm
    rw [hd, ← Snapshot.allFresh_iff]
    by_cases h : s.snap.state = .all .fresh ∧ s.snap.vehicle.drive = false
    · rw [ModeInput.decideInit_ready (i := s.modeInput) h]
      exact ⟨rfl, fun _ => rfl, fun hn => absurd h hn⟩
    · rw [ModeInput.decideInit_waits (i := s.modeInput) h]
      exact ⟨rfl, fun hn => absurd hn h, fun _ => rfl⟩
  · have hd : s.decided = s.modeInput.decideParked s.stopRunNow := State.decided_of hm
    rw [hd, ← State.safeEntry_iff]
    by_cases h : s.modeInput.safeEntry = true
    · rw [ModeInput.decideParked_safe h]
      exact ⟨rfl, fun _ => rfl, fun hn => absurd h hn⟩
    · rw [ModeInput.decideParked_else h]
      exact ⟨rfl, fun hn => absurd hn h, fun _ => rfl⟩
  · have hd : s.decided = s.modeInput.decideSafe s.stopRunNow := State.decided_of hm
    rw [hd, ← State.electricPath_iff, ← State.enginePath_iff, ← Bool.or_eq_true]
    by_cases h : s.snap.state.vehicle = .fresh ∧ (s.snap.electricPath || s.modeInput.enginePath) = true
        ∧ s.snap.vehicle.drive = false ∧ s.seq.state = .off
    · rw [ModeInput.decideSafe_leaves (i := s.modeInput) h]
      exact ⟨rfl, fun _ => rfl, fun hn => absurd h hn⟩
    · rw [ModeInput.decideSafe_stays (i := s.modeInput) h]
      exact ⟨rfl, fun hn => absurd hn h, fun _ => rfl⟩

/-- Settles O30, from the decisions of ELECTRIC and STARTING. -/
theorem decisionInElectricAndStarting : Obligations.DecisionInElectricAndStarting := by
  intro s hr hs
  refine ⟨_, rfl, ?_⟩
  rw [State.modeStage_modeCtl hr hs, State.modeStage_request hr hs, ← State.safeEntry_iff, ← State.enginePath_iff,
    ← State.trigger_iff, ← State.zoneEffective_iff]
  refine ⟨fun hm => ?_, fun hm => ?_⟩
  · have hd : s.decided = s.modeInput.decideElectric s.startRunNow s.stopRunNow := State.decided_of hm
    rw [hd]
    refine ⟨fun h => ?_, fun h hdrive => ?_, fun h hdrive hp ht => ?_, fun h hdrive hn => ?_⟩
    · rw [ModeInput.decideElectric_safe h]; exact ⟨rfl, rfl⟩
    · rw [ModeInput.decideElectric_parks h hdrive]; exact ⟨rfl, rfl⟩
    · rw [ModeInput.decideElectric_starts h hdrive hp ht]; exact ⟨rfl, rfl⟩
    · rw [ModeInput.decideElectric_stays h hdrive hn]; exact ⟨rfl, rfl⟩
  · have hd : s.decided = s.modeInput.decideStarting s.stopRunNow := State.decided_of hm
    rw [hd]
    refine ⟨fun h => ?_, fun h hdrive => ?_, fun h hdrive hz => ?_, fun h hdrive hz => ?_⟩
    · rw [ModeInput.decideStarting_safe h]; exact ⟨rfl, rfl⟩
    · rw [ModeInput.decideStarting_parks h hdrive]; exact ⟨rfl, rfl, rfl, rfl⟩
    · rw [ModeInput.decideStarting_zone h hdrive hz]; exact ⟨rfl, rfl, rfl, rfl⟩
    · rw [ModeInput.decideStarting_stays h hdrive hz]; exact ⟨rfl, rfl⟩

/-- A dwell stop is due when the run with this snapshot is complete (R67). -/
theorem State.dwellComplete_iff {s : State} (hm : s.modeCtl.mode = .hybrid ∨ s.modeCtl.mode = .charge) :
    s.cal.active.stopDwell ≤ s.stopRunNow
      ↔ s.DwellStop ∧ s.cal.active.stopDwell ≤ min 3000 (s.modeCtl.stopRun + 1) ∨ s.cal.active.stopDwell = 0 := by
  by_cases h : s.DwellStop
  · rw [State.stopRunNow_of_counted hm h]
    simp only [h, true_and]
    omega
  · rw [State.stopRunNow_of_not fun hn => h hn.2]
    simp [h]

theorem State.stopRequest_eq (s : State) :
    s.modeInput.stopRequest = if s.snap.engine.state = .fault then .stopNoUnload else .stopUnload := by
  unfold ModeInput.stopRequest
  exact if_congr State.engineFault_iff rfl rfl

/-- Settles O31, from the decisions of the two coupled modes. -/
theorem decisionInHybridAndCharge : Obligations.DecisionInHybridAndCharge := by
  intro s hr hs hm
  refine ⟨_, rfl, ?_⟩
  have hd : s.decided = s.modeInput.decideCoupled s.modeCtl.mode s.stopRunNow := by
    obtain h | h := hm <;> rw [h] <;> exact State.decided_of h
  rw [State.modeStage_modeCtl hr hs, State.modeStage_request hr hs, ← State.immediateCause_iff, ← State.safeEntry_iff, hd,
    ← State.stopRequest_eq]
  dsimp only
  rw [← State.dwellComplete_iff hm]
  refine ⟨fun hi => ⟨?_, fun h => ?_, fun h => ?_⟩, fun hi hrun => ?_, fun hi hrun => ⟨?_, fun h => ?_, fun h => ?_⟩⟩
  · by_cases h : s.modeInput.safeEntry = true
    · rw [ModeInput.decideCoupled_safe hi h]
    · rw [ModeInput.decideCoupled_stops hi h]
  · rw [ModeInput.decideCoupled_safe hi h]
  · rw [ModeInput.decideCoupled_stops hi h]
    exact ⟨rfl, rfl, rfl⟩
  · rw [ModeInput.decideCoupled_dwells hi hrun]
    exact ⟨rfl, rfl, rfl, rfl⟩
  · obtain h | h := hm <;> rw [h]
    · rw [ModeInput.decideHybrid_drives hi hrun]; rfl
    · rw [ModeInput.decideCharge_drives hi hrun]; rfl
  · rw [h, ModeInput.decideHybrid_drives hi hrun]; rfl
  · rw [h, ModeInput.decideCharge_drives hi hrun]; rfl

section
variable {s : State}

/-- What makes a stop immediate at this decision (R69). -/
theorem State.stopKindNow_of_cause (h : s.snap.vehicle.drive = false ∨ s.ZoneEffective ∨ s.snap.engine.state = .fault) (k : StopKind) :
    s.modeInput.stopKindNow k = .immediate := by
  rw [← State.zoneEffective_iff, ← State.engineFault_iff] at h
  refine if_pos ?_
  simp only [Bool.or_eq_true, Bool.not_eq_true', or_assoc]
  exact h

theorem State.stopKindNow_of_not (h : ¬ (s.snap.vehicle.drive = false ∨ s.ZoneEffective ∨ s.snap.engine.state = .fault)) (k : StopKind) :
    s.modeInput.stopKindNow k = k := by
  rw [← State.zoneEffective_iff, ← State.engineFault_iff] at h
  refine if_neg ?_
  simp only [Bool.or_eq_true, Bool.not_eq_true', or_assoc]
  exact h

theorem State.stopDestNow_eq (d : StopDest) : s.modeInput.stopDestNow d = if s.snap.vehicle.drive then d else .parked := by
  cases hd : s.snap.vehicle.drive with
  | true => exact if_neg (by show ¬ (!s.snap.vehicle.drive) = true; simp [hd])
  | false => exact if_pos (by show (!s.snap.vehicle.drive) = true; simp [hd])

theorem State.stopKindNow_dwell_iff (k : StopKind) : s.modeInput.stopKindNow k = .dwell
    ↔ ¬ (s.snap.vehicle.drive = false ∨ s.ZoneEffective ∨ s.snap.engine.state = .fault ∨ k ≠ .dwell) := by
  by_cases h : s.snap.vehicle.drive = false ∨ s.ZoneEffective ∨ s.snap.engine.state = .fault
  · rw [State.stopKindNow_of_cause h]
    exact iff_of_false nofun fun hn => hn (by tauto)
  · rw [State.stopKindNow_of_not h]
    tauto

end

/-- Settles O32, from the decision of STOPPING. -/
theorem decisionInStopping : Obligations.DecisionInStopping := by
  intro s hr hs hm
  refine ⟨_, rfl, ?_⟩
  have hd : s.decided = s.modeInput.decideStopping s.modeCtl.stopKind s.modeCtl.stopDest s.startRunNow s.stopRunNow :=
    State.decided_of hm
  rw [State.modeStage_modeCtl hr hs, State.modeStage_request hr hs, ← State.safeEntry_iff, hd]
  dsimp only
  rw [← State.stopKindNow_dwell_iff, ← State.enginePath_iff, ← State.gatedTrigger_iff]
  refine ⟨fun h => ?_, fun h hc => ?_, fun h hc => ?_⟩
  · rw [ModeInput.decideStopping_safe h]
    exact ⟨rfl, rfl⟩
  · rw [ModeInput.decideStopping_cancels h hc]
    exact ⟨rfl, rfl⟩
  · rw [ModeInput.decideStopping_stays h hc]
    exact ⟨rfl, rfl, State.stopDestNow_eq _, fun hi => State.stopKindNow_of_cause hi _, fun hi => State.stopKindNow_of_not hi _⟩

end Sys2Proof.Machine
end

section
/-! SUPPORT. What MODE's decision, SEQ's stage and the settling point publish together (R53, R61 to R73). -/

namespace Sys2Proof.Machine

section
variable {s t : State}

/-- The rest of an operation from MODE's stage publishes the settled mode and the command of SEQ's new state. -/
theorem record_of_runs (hr : s.rstN = true) (hs : s.stage = .mode)
    (h : Runs [.modeDecision, .sequencerStage, .splitStage, .publication] s t) :
    t.record.mode = (s.modeStage.modeCtl.settle s.cal.active s.snap.battery.soc s.modeStage.seqOut.outcome).mode
      ∧ t.record.engineCmd = s.modeStage.seqOut.seq.state.engineCmd := by
  obtain ⟨_, h1, _, h2, _, h3, _, h4, rfl⟩ := h
  cases h1; cases h2; cases h3; cases h4
  have hseq : s.modeStage.stage = .seq := by simp [State.modeStage_eq hr hs]
  have hsplit : s.modeStage.seqStage.stage = .split := by simp [State.seqStage_eq (s := s.modeStage) (by simpa using hr) hseq]
  have hpublish : s.modeStage.seqStage.splitStage.stage = .publish := by
    simp [State.splitStage_eq (s := s.modeStage.seqStage) (by simpa using hr) hsplit]
  have hrecord : s.modeStage.seqStage.splitStage.publishStage.record = s.modeStage.seqStage.splitStage.newRecord := by
    simp [State.publishStage_eq (s := s.modeStage.seqStage.splitStage) (by simpa using hr) hpublish]
  rw [hrecord]
  simp [State.newRecord, State.seqStage_eq (s := s.modeStage) (by simpa using hr) hseq]

theorem State.modeStage_mode (hr : s.rstN = true) (hs : s.stage = .mode) : s.modeStage.modeCtl.mode = s.decided.mode := by
  rw [State.modeStage_modeCtl hr hs]

theorem State.modeStage_seqState (hr : s.rstN = true) (hs : s.stage = .mode) : s.modeStage.seq.state = s.seq.state := by
  rw [State.modeStage_seq hr hs]
  unfold Seq.cutCoolOff
  split_ifs <;> rfl

/-- MODE hands SEQ a request that fits (R81). -/
theorem State.decided_handed (h : pairOk s.modeCtl.mode s.seq.state = true) :
    handedOk s.decided.mode s.seq.state s.snap.engineFault s.decided.request = true :=
  ModeInput.decision_handed s.modeInput _ _ _ _ h

theorem SeqInput.step_obeys (i : SeqInput) {r : Request} {q : Seq} {m : Mode} {fault : Bool}
    (h : handedOk m q.state fault (some r) = true) :
    (i.step (some r) q).outcome = .progress ∧ pairOk m (i.step (some r) q).seq.state = true := by
  rw [SeqInput.step_some]
  exact Seq.obey_pair (by simpa using h) i.cal

theorem SeqInput.step_moves (i : SeqInput) {q : Seq} {m : Mode} (h : handedOk m q.state i.snap.engineFault none = true) :
    pairOk m q.state = true ∧ (i.step none q).move ∈ seqMoves q.state := by
  obtain ⟨hpair, hcoupled⟩ : pairOk m q.state = true ∧ (m.coupled = false ∨ i.snap.engineFault = false) := by
    simpa [handedOk] using h
  refine ⟨hpair, i.step_none_move fun hf hq => ?_⟩
  rw [hq] at hpair
  obtain hc | hc := hcoupled
  · revert hc hpair
    cases m <;> simp [pairOk, Mode.coupled]
  · exact absurd (hc.symm.trans hf) (by decide)

end

/-! ### The mode changes (R61 to R73) -/

theorem coupledMode_cases (soc : Int) (c : CalSet) : coupledMode soc c = .hybrid ∨ coupledMode soc c = .charge := by
  unfold coupledMode
  split_ifs <;> simp

/-- A decision keeps to the table of modes, and enters STARTING and STOPPING with a request. -/
theorem ModeInput.decision_next (i : ModeInput) (k : StopKind) (d : StopDest) (startRun run : Nat) (m : Mode) :
    (i.decision k d startRun run m).mode ∈ nextModes m
      ∧ ((i.decision k d startRun run m).request = none → (i.decision k d startRun run m).mode = .starting → m = .starting)
      ∧ ((i.decision k d startRun run m).request = none → (i.decision k d startRun run m).mode = .stopping → m = .stopping) := by
  cases m with
  | init => unfold ModeInput.decision ModeInput.decideInit; split_ifs <;> simp [Decision.plain, nextModes]
  | parked => unfold ModeInput.decision ModeInput.decideParked; split_ifs <;> simp [Decision.plain, nextModes]
  | electric => unfold ModeInput.decision ModeInput.decideElectric; split_ifs <;> simp [Decision.plain, nextModes]
  | starting => unfold ModeInput.decision ModeInput.decideStarting; split_ifs <;> simp [Decision.plain, nextModes]
  | hybrid => unfold ModeInput.decision ModeInput.decideCoupled; split_ifs <;> simp [Decision.plain, nextModes]
  | charge => unfold ModeInput.decision ModeInput.decideCoupled; split_ifs <;> simp [Decision.plain, nextModes]
  | stopping =>
    obtain hc | hc := coupledMode_cases i.snap.battery.soc i.cal <;> unfold ModeInput.decision ModeInput.decideStopping <;>
      split_ifs <;> simp [Decision.plain, nextModes, hc]
  | safe => unfold ModeInput.decision ModeInput.decideSafe; split_ifs <;> simp [Decision.plain, nextModes]

/-- The settling point leaves the mode, ends a start, or ends a stop (R53, R65, R73, R91). -/
theorem ModeCtl.settle_mode (c : CalSet) (soc : Int) (m : ModeCtl) {q : SeqState} (h : pairOk m.mode q = true)
    {x : SeqState × SeqOutcome} (hx : x ∈ seqMoves q) :
    (m.settle c soc x.2).mode = m.mode
      ∨ m.mode = .starting ∧ (m.settle c soc x.2).mode ∈ nextModes .starting
      ∨ m.mode = .stopping ∧ (m.settle c soc x.2).mode ∈ nextModes .stopping := by
  obtain ⟨st, o⟩ := x
  dsimp only
  cases o with
  | none => exact .inl rfl
  | progress => exact .inl rfl
  | startComplete =>
    by_cases hm : m.mode = .starting
    · rw [ModeCtl.settle_startComplete hm]
      refine .inr (.inl ⟨hm, ?_⟩)
      obtain hc | hc := coupledMode_cases soc c <;> simp [ModeCtl.settleTo, nextModes, hc]
    · exact .inl (congrArg ModeCtl.mode (if_neg hm))
  | startShutDown =>
    by_cases hm : m.mode = .starting
    · rw [ModeCtl.settle_startShutDown hm]
      exact .inr (.inl ⟨hm, by simp [nextModes]⟩)
    · exact .inl (congrArg ModeCtl.mode (if_neg hm))
  | stopComplete =>
    by_cases hm : m.mode = .stopping
    · rw [ModeCtl.settle_stopComplete hm]
      refine .inr (.inr ⟨hm, ?_⟩)
      cases hd : m.stopDest <;> simp [ModeCtl.settleTo, StopDest.mode, nextModes, hm]
    · exact .inl (congrArg ModeCtl.mode (ModeCtl.settle_stopComplete_of_ne hm))
  | releaseTimeout =>
    have hq : q = .clutchRelease := by cases q <;> simp [seqMoves] at hx ⊢
    obtain hm | hm := stopping_or_safe_of_pair h (.inr (.inl hq))
    · exact .inr (.inr ⟨hm, by simp [ModeCtl.settle, ModeCtl.settleTo, nextModes]⟩)
    · exact .inl hm.symm

/-- Settles O34: a request is obeyed and leaves the decided mode; without one a start or a stop may end. -/
theorem onlyTheseModeChanges : Obligations.OnlyTheseModeChanges := by
  intro s t hp hr hs hrun
  have hpair := hp.settled (by simp [hs])
  have hhanded := State.decided_handed hpair
  obtain ⟨hnext, hstarting, hstopping⟩ : s.decided.mode ∈ nextModes s.modeCtl.mode
      ∧ (s.decided.request = none → s.decided.mode = .starting → s.modeCtl.mode = .starting)
      ∧ (s.decided.request = none → s.decided.mode = .stopping → s.modeCtl.mode = .stopping) :=
    ModeInput.decision_next s.modeInput _ _ _ _ _
  have hmode := State.modeStage_mode hr hs
  rw [← State.modeStage_seqState hr hs] at hhanded
  rw [(record_of_runs hr hs hrun).1]
  unfold State.seqOut
  rw [State.modeStage_request hr hs]
  cases hrequest : s.decided.request with
  | some r =>
    rw [hrequest] at hhanded
    rw [(s.modeStage.seqInput.step_obeys hhanded).1]
    show s.modeStage.modeCtl.mode ∈ _
    rwa [hmode]
  | none =>
    rw [hrequest] at hhanded
    obtain ⟨hstands, hmove⟩ := s.modeStage.seqInput.step_moves (q := s.modeStage.seq) (by simpa [State.seqInput] using hhanded)
    rw [← hmode] at hstands
    obtain h | ⟨hm, h⟩ | ⟨hm, h⟩ := ModeCtl.settle_mode s.cal.active s.snap.battery.soc s.modeStage.modeCtl hstands hmove
    · exact h ▸ hmode ▸ hnext
    · rwa [hstarting hrequest (hmode ▸ hm)]
    · rwa [hstopping hrequest (hmode ▸ hm)]

/-! ### START (R64) -/

/-- Triggers (e) and (f) are a reserve breach, and the zone gates the others (R57, R63). -/
theorem State.ZoneEffective.not_trigger {s : State} (h : s.ZoneEffective) : ¬ s.Trigger := by
  obtain ⟨hzone, hbreach⟩ := h
  rintro (⟨hgate, -⟩ | hpath | hsoc)
  · exact hgate ⟨hzone, hbreach⟩
  · exact hbreach (.inr hpath)
  · exact hbreach (.inl hsoc)

theorem SeqState.engineCmd_start {q : SeqState} (h : q.engineCmd = .start) : q = .crankWait := by
  cases q <;> first | rfl | exact absurd h (by decide)

/-- CRANK_WAIT is entered by a request alone. -/
theorem seqMoves_crankWait {q : SeqState} {x : SeqState × SeqOutcome} (hx : x ∈ seqMoves q) (h : x.1 = .crankWait) :
    q = .crankWait := by
  revert x
  cases q <;> decide

/-- STARTING with an engine that is OFF is decided in ELECTRIC, on a trigger (R63). -/
theorem State.trigger_of_starts {s : State} (hr : s.rstN = true) (hs : s.stage = .mode)
    (hpair : pairOk s.modeCtl.mode .off = true) (h : s.decided.mode = .starting) : s.Trigger := by
  have hnext : s.decided.mode ∈ nextModes s.modeCtl.mode := (ModeInput.decision_next s.modeInput _ _ _ _ _).1
  rw [h] at hnext
  have hm : s.modeCtl.mode = .electric := by
    revert hnext hpair
    cases s.modeCtl.mode <;> decide
  obtain ⟨_, he, hdecision, -⟩ := decisionInElectricAndStarting s hr hs
  cases he
  obtain ⟨hsafe, hparks, -, hstays⟩ := hdecision hm
  rw [State.modeStage_mode hr hs, h] at hsafe hparks hstays
  by_contra hn
  have hentry : ¬ s.SafeEntry := fun hx => nomatch (hsafe hx).1
  cases hd : s.snap.vehicle.drive with
  | false => exact nomatch (hparks hentry hd).1
  | true => exact nomatch (hstays hentry hd fun hx => hn hx.2).1

/-- A start is abandoned in an effective zone (R64). -/
theorem State.abandons_of_zone {s : State} (hr : s.rstN = true) (hs : s.stage = .mode) (hm : s.modeCtl.mode = .starting)
    (hz : s.ZoneEffective) : s.decided.request = some .abandon := by
  obtain ⟨_, he, -, hdecision⟩ := decisionInElectricAndStarting s hr hs
  cases he
  obtain ⟨hsafe, hparks, hzone, -⟩ := hdecision hm
  rw [State.modeStage_request hr hs] at hsafe hparks hzone
  by_cases hentry : s.SafeEntry
  · exact (hsafe hentry).2
  · cases hd : s.snap.vehicle.drive with
    | false => exact (hparks hentry hd).2.2.2
    | true => exact (hzone hentry hd hz).2.2.2

/-- Settles O33: CRANK_WAIT is entered on a trigger, which an effective zone has none of, and kept in STARTING, which it ends. -/
theorem noStartCommandInAnEffectiveZone : Obligations.NoStartCommandInAnEffectiveZone := by
  intro s t hp hr hs hrun hzone hstart
  have hpair := hp.settled (by simp [hs])
  have hhanded := State.decided_handed hpair
  rw [(record_of_runs hr hs hrun).2] at hstart
  have hcrank := SeqState.engineCmd_start hstart
  unfold State.seqOut at hcrank
  rw [State.modeStage_request hr hs] at hcrank
  have hstate := State.modeStage_seqState hr hs
  cases hrequest : s.decided.request with
  | some r =>
    rw [hrequest] at hhanded hcrank
    rw [← hstate] at hhanded
    have hafter := (s.modeStage.seqInput.step_obeys hhanded).2
    rw [hcrank] at hafter
    have hstarting := starting_of_pair hafter rfl
    rw [hstarting, hstate] at hhanded
    have hoff : s.seq.state = .off := by
      revert hhanded
      cases r <;> simp [handedOk, Mode.coupled]
    exact hzone.not_trigger (State.trigger_of_starts hr hs (hoff ▸ hpair) hstarting)
  | none =>
    rw [hrequest] at hhanded hcrank
    obtain ⟨-, hmove⟩ := s.modeStage.seqInput.step_moves (q := s.modeStage.seq) (m := s.decided.mode)
      (by simpa [State.seqInput, hstate] using hhanded)
    have hwas : s.seq.state = .crankWait := hstate ▸ seqMoves_crankWait hmove hcrank
    rw [hwas] at hpair
    have hab := State.abandons_of_zone hr hs (starting_of_pair hpair rfl) hzone
    rw [hrequest] at hab
    cases hab

end Sys2Proof.Machine
end

section
/-! SUPPORT. SEQ's stage, one equation for each case of its decision (R79 to R95). -/

namespace Sys2Proof.Machine

/-! ### The wait of a state (R80, R82 to R84, R89 to R92, R95) -/

section
variable {i : SeqInput} {q : Seq}

/-- A wait that goes on (R80, R83). -/
theorem SeqInput.wait_stands (hw : q.state.waits = true) (hp : i.progresses q = false) (he : q.timer ≠ 1) :
    i.wait q = .quiet { q with timer := q.timer - 1, spent := if q.timer = 0 then q.spent else q.spent + 1
                               syncRun := if q.state = .speedSync then i.syncRun q else q.syncRun } := by
  have hexpires : q.expires = false := by simp [Seq.expires, he]
  unfold SeqInput.wait
  cases hs : q.state <;> first | exact absurd (hs ▸ hw) (by decide) | skip
  all_goals simp [hs, hp, hexpires, Seq.tick_eq]

theorem SeqInput.wait_cranked (hs : q.state = .crankWait) (hp : i.snap.engine.state = .running) :
    i.wait q = q.advance i.cal .speedSync := by simp [SeqInput.wait, SeqInput.progresses, hs, hp]

theorem SeqInput.wait_synced (hs : q.state = .speedSync) (hp : i.cal.syncDwell ≤ i.syncRun q) :
    i.wait q = q.advance i.cal .clutchWait := by simp [SeqInput.wait, SeqInput.progresses, hs, hp]

theorem SeqInput.wait_coupled (hs : q.state = .clutchWait) (hp : i.snap.engine.clutch = .closed) :
    i.wait q = ⟨{ q.enter i.cal .coupled with attempts := 0 }, [], .startComplete⟩ := by
  simp [SeqInput.wait, SeqInput.progresses, hs, hp]

theorem SeqInput.wait_unloaded (hs : q.state = .unload) (hp : i.te = 0) : i.wait q = q.advance i.cal .clutchRelease := by
  simp [SeqInput.wait, SeqInput.progresses, hs, hp]

theorem SeqInput.wait_unloading (hs : q.state = .unload) (hp : i.te ≠ 0) : i.wait q = .quiet q := by
  simp [SeqInput.wait, SeqInput.progresses, hs, hp]

theorem SeqInput.wait_released (hs : q.state = .clutchRelease) (hp : i.progresses q = true) :
    i.wait q = q.advance i.cal .offWait := by simp [SeqInput.wait, hs, hp]

theorem SeqInput.wait_off (hs : q.state = .offWait) (hp : i.snap.engine.state = .off) : i.wait q = q.reachOff i.cal := by
  simp [SeqInput.wait, SeqInput.progresses, hs, hp]

theorem SeqInput.wait_restored (hs : q.state = .off) (hp : i.restores q = true) :
    i.wait q = ⟨{ q with avail := .available, attempts := 0 }, [.engineRestored], .none⟩ := by simp [SeqInput.wait, hs, hp]

theorem SeqInput.wait_in_off (hs : q.state = .off) (hp : i.restores q = false) : i.wait q = .quiet q := by
  simp [SeqInput.wait, hs, hp]

theorem SeqInput.wait_in_coupled (hs : q.state = .coupled) : i.wait q = .quiet q := by simp [SeqInput.wait, hs]

/-- The reason of a start state's timeout (R82 to R84). -/
def SeqState.timeoutReason : SeqState → LastReason
  | .crankWait => .crankTimeout
  | .speedSync => .syncTimeout
  | .clutchWait => .clutchTimeout
  | .clutchRelease => .releaseTimeout
  | .offWait => .offTimeout
  | .off => .none
  | .coupled => .none
  | .unload => .none

theorem SeqInput.wait_start_fails (hs : q.state.starts = true) (hp : i.progresses q = false) (ht : q.timer = 1) :
    i.wait q = q.tick.failStep i.cal q.state.timeoutReason := by
  have hexpires : q.expires = true := by simp [Seq.expires, ht]
  unfold SeqInput.wait
  cases hq : q.state <;> first | exact absurd (hq ▸ hs) (by decide) | skip
  all_goals simp [hp, hexpires, SeqState.timeoutReason]

theorem SeqInput.wait_release_fails (hs : q.state = .clutchRelease) (hp : i.progresses q = false) (ht : q.timer = 1) :
    i.wait q = ⟨q.tick.lose .releaseTimeout, unavailableNotice q, .releaseTimeout⟩ := by
  simp [SeqInput.wait, hs, hp, Seq.expires, ht]

theorem SeqInput.wait_off_fails (hs : q.state = .offWait) (hp : i.progresses q = false) (ht : q.timer = 1) :
    i.wait q = { (q.lose .offTimeout).reachOff i.cal with
                 notices := unavailableNotice q ++ ((q.lose .offTimeout).reachOff i.cal).notices } := by
  simp [SeqInput.wait, hs, hp, Seq.expires, ht]

/-- Arrival at OFF without a failure to decide about (R92). -/
theorem Seq.reachOff_plain (c : CalSet) (h : q.failurePending = false ∨ q.avail = .unavailable) :
    q.reachOff c = ⟨{ q.enter c .off with failurePending := false }, [], .stopComplete⟩ := by
  unfold Seq.reachOff
  dsimp only
  rw [if_neg]
  rintro ⟨hf, ha⟩
  obtain h | h := h
  · rw [h] at hf; cases hf
  · exact ha h

/-- A failed start with tries left cools off (R86). -/
theorem Seq.reachOff_cools {c : CalSet} (hf : q.failurePending = true) (ha : q.avail ≠ .unavailable) (hn : q.attempts ≤ c.retryLimit) :
    q.reachOff c =
      ⟨{ q.enter c .off with failurePending := false, avail := .cooling, coolOff := c.coolOff }, [], .stopComplete⟩ := by
  unfold Seq.reachOff
  dsimp only
  rw [if_pos ⟨hf, ha⟩, if_pos hn]

/-- A failed start without takes the engine away (R86). -/
theorem Seq.reachOff_gives_up {c : CalSet} (hf : q.failurePending = true) (ha : q.avail ≠ .unavailable) (hn : c.retryLimit < q.attempts) :
    q.reachOff c =
      ⟨{ q.enter c .off with failurePending := false, avail := .unavailable }, [.engineUnavailable], .stopComplete⟩ := by
  unfold Seq.reachOff
  dsimp only
  rw [if_pos ⟨hf, ha⟩, if_neg (by omega)]

end

/-! ### The step of SEQ's stage -/

section
variable {i : SeqInput} {q : Seq}

theorem SeqInput.faultReaches_iff : i.faultReaches q = true ↔ i.snap.engine.state = .fault ∧ q.state ≠ .off := by
  simp [SeqInput.faultReaches, Snapshot.engineFault]

/-- Without a FAULT that reaches SEQ the wait decides (R79, R93). -/
theorem SeqInput.step_calm (ha : q.avail ≠ .cooling) (hf : ¬ (i.snap.engine.state = .fault ∧ q.state ≠ .off)) :
    i.step none q = i.wait q := by
  have hno : i.faultReaches q = false := Bool.eq_false_iff.mpr (mt SeqInput.faultReaches_iff.mp hf)
  rw [SeqInput.step_none]
  simp [hno, SeqInput.prepared, SeqInput.faultNotices, Seq.Noted.cool_avail_ne ha]

/-- A FAULT makes the engine UNAVAILABLE and then decides (R93). -/
theorem SeqInput.step_faulted (ha : q.avail ≠ .cooling) (hf : i.snap.engine.state = .fault) (hs : q.state ≠ .off) :
    i.step none q = { i.faulted (q.lose .fault) with
                      notices := unavailableNotice q ++ (i.faulted (q.lose .fault)).notices } := by
  have hyes : i.faultReaches q = true := SeqInput.faultReaches_iff.mpr ⟨hf, hs⟩
  rw [SeqInput.step_none]
  simp [hyes, SeqInput.prepared, SeqInput.faultNotices, Seq.Noted.cool_avail_ne ha]

end

section
variable {s : State} (hr : s.rstN = true) (hs : s.stage = .seq)
include hr hs

theorem State.seqStage_seq : s.seqStage.seq = s.seqOut.seq := by simp [State.seqStage_eq hr hs]

theorem State.seqStage_modeCtl :
    s.seqStage.modeCtl = s.modeCtl.settle s.cal.active s.snap.battery.soc s.seqOut.outcome := by simp [State.seqStage_eq hr hs]

/-- SEQ's stage writes SEQ and MODE, takes the request and raises notices (R53, R79). -/
theorem State.seqStage_fields : s.seqStage =
    { s with seq := s.seqStage.seq, modeCtl := s.seqStage.modeCtl, request := none, stage := .split, ntc := s.seqStage.ntc } := by
  have hstage := State.seqStage_eq hr hs
  apply State.ext_fields <;> simp [hstage]

/-- What SEQ's stage leaves, from the step it makes. -/
theorem State.seqStage_does {now : Seq} {ctl : ModeCtl} {notices : List NoticeKind} {outcome : SeqOutcome}
    (h : s.seqOut = ⟨now, notices, outcome⟩) (hctl : s.modeCtl.settle s.cal.active s.snap.battery.soc outcome = ctl) :
    Raised notices s s.seqStage
      ∧ s.seqStage = { s with seq := now, modeCtl := ctl, request := none, stage := .split, ntc := s.seqStage.ntc } := by
  have hraised := State.seqStage_raised hr hs
  have hfields := State.seqStage_fields hr hs
  rw [State.seqStage_seq hr hs, State.seqStage_modeCtl hr hs, h, hctl] at hfields
  rw [h] at hraised
  exact ⟨hraised, hfields⟩

end

theorem State.seqOut_calm {s : State} (ha : s.seq.avail ≠ .cooling) (hq : s.request = none)
    (hf : ¬ (s.snap.engine.state = .fault ∧ s.seq.state ≠ .off)) : s.seqOut = s.seqInput.wait s.seq := by
  unfold State.seqOut
  rw [hq]
  exact SeqInput.step_calm ha hf

theorem State.seqOut_faulted {s : State} (ha : s.seq.avail ≠ .cooling) (hq : s.request = none)
    (hf : s.snap.engine.state = .fault) (hs : s.seq.state ≠ .off) :
    s.seqOut = { s.seqInput.faulted (s.seq.lose .fault) with
                 notices := unavailableNotice s.seq ++ (s.seqInput.faulted (s.seq.lose .fault)).notices } := by
  unfold State.seqOut
  rw [hq]
  exact SeqInput.step_faulted ha hf hs

/-! ### The cool-off (R87) -/

/-- Settles O40: without a request SEQ only counts, an engine that cools off being neither restored nor reached by a FAULT. -/
theorem coolOffCountsDown : Obligations.CoolOffCountsDown := by
  intro s hr hs hq hoff hcool
  have hrestores : s.seqInput.restores s.seq.cool = false := by
    unfold SeqInput.restores Seq.cool
    rw [if_pos hcool]
    dsimp only
    split_ifs <;> rfl
  have hout : s.seqOut = .quiet s.seq.cool := by
    unfold State.seqOut
    rw [hq, SeqInput.step_none]
    simp [SeqInput.faultReaches, SeqInput.prepared, SeqInput.faultNotices, hoff, SeqInput.wait_in_off, hrestores, SeqStep.quiet]
  have hstage : s.seqStage = { s with seq := s.seq.cool, request := none, stage := .split } := by
    rw [State.seqStage_eq hr hs, hout]
    rfl
  have hcount : s.seq.cool = { s.seq with coolOff := s.seq.coolOff - 1
                                          avail := if s.seq.coolOff - 1 = 0 then .available else .cooling } := if_pos hcool
  refine ⟨fun hlong => ⟨⟨_, rfl, ?_⟩, congrArg Host.Outcome.next (if_neg ?_)⟩, fun hlast => ?_⟩
  · rw [hstage, hcount, if_neg (by omega), ← hcool]
  · simp [State.coolOffEnds]
    omega
  · have hzero : s.seq.coolOff - 1 = 0 := by omega
    have hends : s.coolOffEnds = true := by simp [State.coolOffEnds, hr, hs, hcool, hzero]
    rw [hzero, if_pos rfl] at hcount
    exact ⟨⟨_, rfl, by rw [hstage, hcount]⟩, _, congrArg Host.Outcome.next (if_pos hends), by rw [hstage, hcount]⟩

/-! ### Starts (R82 to R84) -/

/-- The sync run counts on within the band (R83). -/
theorem SeqInput.syncRun_of_inBand {i : SeqInput} (q : Seq)
    (h : i.snap.engine.state = .running ∧ |i.snap.engine.speed - i.nSel| ≤ i.cal.syncBand) :
    i.syncRun q = min 50 (q.syncRun + 1) := by
  rw [← SeqInput.runNow_eq]
  exact if_pos h

theorem SeqInput.syncRun_of_out {i : SeqInput} (q : Seq)
    (h : ¬ (i.snap.engine.state = .running ∧ |i.snap.engine.speed - i.nSel| ≤ i.cal.syncBand)) : i.syncRun q = 0 := by
  rw [← SeqInput.runNow_eq]
  exact if_neg h

section
variable {i : SeqInput} {q : Seq}

theorem SeqInput.crank_progresses (hs : q.state = .crankWait) :
    i.progresses q = false ↔ i.snap.engine.state ≠ .running := by simp [SeqInput.progresses, hs]

theorem SeqInput.sync_progresses (hs : q.state = .speedSync) : i.progresses q = false ↔ i.syncRun q < i.cal.syncDwell := by
  simp [SeqInput.progresses, hs]

theorem SeqInput.clutch_progresses (hs : q.state = .clutchWait) :
    i.progresses q = false ↔ i.snap.engine.clutch ≠ .closed := by simp [SeqInput.progresses, hs]

theorem SeqInput.offWait_progresses (hs : q.state = .offWait) : i.progresses q = false ↔ i.snap.engine.state ≠ .off := by
  simp [SeqInput.progresses, hs]

end

/-- Settles O37, each clause by its case of the wait. -/
theorem startProgresses : Obligations.StartProgresses := by
  intro s hr hs ha hq hf
  have hout := State.seqOut_calm ha hq fun h => hf h.1
  have does {now : Seq} {outcome : SeqOutcome} (h : s.seqInput.wait s.seq = ⟨now, [], outcome⟩) :
      (Raised [] s s.seqStage ∧ s.seqStage = { s with seq := s.seqStage.seq, modeCtl := s.seqStage.modeCtl, request := none
                                                      stage := .split, ntc := s.seqStage.ntc })
        ∧ s.seqStage.seq = now
        ∧ s.seqStage.modeCtl = s.modeCtl.settle s.cal.active s.snap.battery.soc outcome := by
    have hraised := State.seqStage_raised hr hs
    rw [hout, h] at hraised
    refine ⟨⟨hraised, State.seqStage_fields hr hs⟩, ?_, ?_⟩
    · rw [State.seqStage_seq hr hs, hout, h]
    · rw [State.seqStage_modeCtl hr hs, hout, h]
  have stands {run : Nat} (hw : s.seq.state.waits = true) (hp : s.seqInput.progresses s.seq = false) (ht : s.seq.timer ≠ 1)
      (hrun : (if s.seq.state = .speedSync then s.seqInput.syncRun s.seq else s.seq.syncRun) = run) :
      (Raised [] s s.seqStage ∧ s.seqStage = { s with seq := s.seqStage.seq, modeCtl := s.seqStage.modeCtl, request := none
                                                      stage := .split, ntc := s.seqStage.ntc })
        ∧ s.seqStage.modeCtl = s.modeCtl
        ∧ s.seqStage.seq = { s.seq with timer := s.seq.timer - 1, syncRun := run
                                        spent := if s.seq.timer = 0 then s.seq.spent else s.seq.spent + 1 } := by
    obtain ⟨hquiet, hseq, hctl⟩ := does (SeqInput.wait_stands hw hp ht)
    rw [hrun] at hseq
    exact ⟨hquiet, hctl, hseq⟩
  refine ⟨_, rfl, fun h => ⟨fun hp => does (SeqInput.wait_cranked h hp), fun hp ht => ?_⟩,
    fun h => ⟨fun hb hd => ?_, fun hb hd ht => ?_, fun hb hd ht => ?_⟩, fun h => ⟨fun hp => does (SeqInput.wait_coupled h hp), fun hp ht => ?_⟩,
    fun h => does (SeqInput.wait_in_coupled h)⟩
  · exact stands (by rw [h]; rfl) ((SeqInput.crank_progresses h).mpr hp) ht (by simp [h])
  · exact does (SeqInput.wait_synced h (by rwa [SeqInput.syncRun_of_inBand s.seq hb]))
  · have hrun := SeqInput.syncRun_of_inBand (i := s.seqInput) s.seq hb
    exact stands (by rw [h]; rfl) ((SeqInput.sync_progresses h).mpr (hrun ▸ hd)) ht (by rw [if_pos h, hrun])
  · have hrun := SeqInput.syncRun_of_out (i := s.seqInput) s.seq hb
    exact stands (by rw [h]; rfl) ((SeqInput.sync_progresses h).mpr (hrun ▸ hd)) ht (by rw [if_pos h, hrun])
  · exact stands (by rw [h]; rfl) ((SeqInput.clutch_progresses h).mpr hp) ht (by simp [h])

/-! ### Stops (R86, R89 to R95) -/

/-- The sequencer after a FAULT's effect on the availability, outside OFF (R93). -/
def State.hitSeq (s : State) : Seq :=
  if decide (s.snap.engine.state = .fault) then { s.seq with avail := .unavailable, lastReason := .fault } else s.seq

/-- The notices of that effect (R94). -/
def State.hitNotices (s : State) : List NoticeKind :=
  if decide (s.snap.engine.state = .fault) ∧ s.seq.avail ≠ .unavailable then [.engineUnavailable] else []

section
variable {s : State}

theorem State.hitSeq_of_fault (hf : s.snap.engine.state = .fault) : s.hitSeq = s.seq.lose .fault := by simp [State.hitSeq, hf, Seq.lose]
theorem State.hitSeq_of_calm (hf : s.snap.engine.state ≠ .fault) : s.hitSeq = s.seq := by simp [State.hitSeq, hf]

theorem State.hitNotices_of_fault (hf : s.snap.engine.state = .fault) : s.hitNotices = unavailableNotice s.seq := by
  by_cases ha : s.seq.avail = .unavailable <;> simp [State.hitNotices, unavailableNotice, hf, ha]

theorem State.hitNotices_of_calm (hf : s.snap.engine.state ≠ .fault) : s.hitNotices = [] := by simp [State.hitNotices, hf]

@[simp] theorem State.hitSeq_state : s.hitSeq.state = s.seq.state := by unfold State.hitSeq; split_ifs <;> rfl
@[simp] theorem State.hitSeq_timer : s.hitSeq.timer = s.seq.timer := by unfold State.hitSeq; split_ifs <;> rfl
@[simp] theorem State.hitSeq_spent : s.hitSeq.spent = s.seq.spent := by unfold State.hitSeq; split_ifs <;> rfl

/-- The availability is no part of a progress condition. -/
theorem State.hitSeq_progresses (s : State) : s.seqInput.progresses s.hitSeq = s.seqInput.progresses s.seq := by
  unfold State.hitSeq
  split_ifs <;> rfl

/-- A stop's wait decides whether or not the engine reads FAULT (R90, R92, R93). -/
theorem State.seqOut_stop (ha : s.seq.avail ≠ .cooling) (hq : s.request = none)
    (hs : s.seq.state = .clutchRelease ∨ s.seq.state = .offWait) :
    s.seqOut = { s.seqInput.wait s.hitSeq with notices := s.hitNotices ++ (s.seqInput.wait s.hitSeq).notices } := by
  by_cases hf : s.snap.engine.state = .fault
  · rw [State.hitSeq_of_fault hf, State.hitNotices_of_fault hf]
    obtain h | h := hs
    · rw [State.seqOut_faulted ha hq hf (by simp [h])]
      simp [SeqInput.faulted, h]
    · rw [State.seqOut_faulted ha hq hf (by simp [h])]
      simp [SeqInput.faulted, h]
  · rw [State.hitSeq_of_calm hf, State.hitNotices_of_calm hf]
    exact State.seqOut_calm ha hq fun h => hf h.1

/-- A stop's wait that decides without a notice of its own. -/
theorem State.seqOut_stop_of (ha : s.seq.avail ≠ .cooling) (hq : s.request = none)
    (hs : s.seq.state = .clutchRelease ∨ s.seq.state = .offWait) {now : Seq} {outcome : SeqOutcome}
    (h : s.seqInput.wait s.hitSeq = ⟨now, [], outcome⟩) : s.seqOut = ⟨now, s.hitNotices, outcome⟩ := by
  rw [State.seqOut_stop ha hq hs, h, List.append_nil]

end

/-- A stop's wait that goes on, FAULT or not (R80, R92). -/
theorem State.hitSeq_stands {s : State} (hstop : s.seq.state = .clutchRelease ∨ s.seq.state = .offWait)
    (hp : s.seqInput.progresses s.hitSeq = false) (ht : s.seq.timer ≠ 1) : s.seqInput.wait s.hitSeq =
      ⟨{ s.hitSeq with timer := s.seq.timer - 1, spent := if s.seq.timer = 0 then s.seq.spent else s.seq.spent + 1 }, [], .none⟩ := by
  have hwaits : s.hitSeq.state.waits = true := by obtain h | h := hstop <;> simp [h, SeqState.waits]
  have hne : s.hitSeq.state ≠ .speedSync := by obtain h | h := hstop <;> simp [h]
  rw [SeqInput.wait_stands hwaits hp (by simpa using ht), if_neg hne, State.hitSeq_timer, State.hitSeq_spent]
  rfl

theorem SeqInput.release_progresses {i : SeqInput} {q : Seq} (hs : q.state = .clutchRelease) :
    i.progresses q = true ↔ i.snap.engine.clutch = .opened ∧ i.snap.alive .engine = true := by
  simp [SeqInput.progresses, hs]

/-- The restore condition (R95). -/
theorem State.restores_iff {s : State} (hs : s.seq.state = .off) : s.seqInput.restores s.seq = true
    ↔ s.seq.avail = .unavailable ∧ s.Present .engine ∧ s.snap.engine.state = .off ∧ s.snap.engine.ready = true := by
  rw [← State.alive_iff]
  simp [SeqInput.restores, hs, State.seqInput, and_assoc]

/-- The settling point at the end of a stop (R73). -/
theorem ModeCtl.settle_stopComplete_eq (c : CalSet) (soc : Int) (m : ModeCtl) : m.settle c soc .stopComplete =
    if m.mode = .stopping then { m with mode := m.stopDest.mode .stopping, stopKind := .none, stopDest := .none } else m := by
  by_cases h : m.mode = .stopping
  · rw [if_pos h, ModeCtl.settle_stopComplete h, h]
    rfl
  · rw [if_neg h, ModeCtl.settle_stopComplete_of_ne h]

/-- Settles O38, each clause by its case of the wait. -/
theorem stopProgresses : Obligations.StopProgresses := by
  intro s hr hs ha hq
  have calm {now : Seq} {ctl : ModeCtl} {notices : List NoticeKind} {outcome : SeqOutcome}
      (hf : ¬ (s.snap.engine.state = .fault ∧ s.seq.state ≠ .off)) (h : s.seqInput.wait s.seq = ⟨now, notices, outcome⟩)
      (hctl : s.modeCtl.settle s.cal.active s.snap.battery.soc outcome = ctl) :=
    State.seqStage_does hr hs ((State.seqOut_calm ha hq hf).trans h) hctl
  have stands (hstop : s.seq.state = .clutchRelease ∨ s.seq.state = .offWait) (hp : s.seqInput.progresses s.hitSeq = false)
      (ht : s.seq.timer ≠ 1) := State.seqStage_does hr hs (State.seqOut_stop_of ha hq hstop (State.hitSeq_stands hstop hp ht)) rfl
  refine ⟨_, rfl, fun h hf => ⟨fun hp => ?_, fun hp => ?_⟩, fun h => ⟨fun hp => ?_, fun hp ht => ?_⟩,
    fun h => ⟨fun hp => ⟨fun hn => ?_, fun hf ha' hn => ?_, fun hf ha' hn => ?_⟩, fun hp ht => ?_⟩,
    fun h => ⟨fun hp => ?_, fun hp => ?_⟩⟩
  · exact calm (fun hx => hf hx.1) (SeqInput.wait_unloaded h hp) rfl
  · exact calm (fun hx => hf hx.1) (SeqInput.wait_unloading h hp) rfl
  · exact State.seqStage_does hr hs (State.seqOut_stop_of ha hq (.inl h) (SeqInput.wait_released (by simpa using h)
      ((SeqInput.release_progresses (by simpa using h)).mpr ⟨hp.1, State.alive_iff.mpr hp.2⟩))) rfl
  · refine stands (.inl h) (Bool.eq_false_iff.mpr fun hx => hp ?_) ht
    obtain ⟨hopen, halive⟩ := (SeqInput.release_progresses (by simpa using h)).mp hx
    exact ⟨hopen, State.alive_iff.mp halive⟩
  · exact calm (fun hx => nomatch hp.symm.trans hx.1) ((SeqInput.wait_off h hp).trans (Seq.reachOff_plain _ hn))
      (ModeCtl.settle_stopComplete_eq _ _ _)
  · exact calm (fun hx => nomatch hp.symm.trans hx.1)
      ((SeqInput.wait_off h hp).trans (Seq.reachOff_cools hf (by simp [ha']) hn)) (ModeCtl.settle_stopComplete_eq _ _ _)
  · exact calm (fun hx => nomatch hp.symm.trans hx.1)
      ((SeqInput.wait_off h hp).trans (Seq.reachOff_gives_up hf (by simp [ha']) hn)) (ModeCtl.settle_stopComplete_eq _ _ _)
  · exact stands (.inr h) ((SeqInput.offWait_progresses (by simpa using h)).mpr hp) ht
  · exact calm (fun hx => hx.2 h) (SeqInput.wait_restored h ((State.restores_iff h).mpr hp)) rfl
  · exact calm (fun hx => hx.2 h) (SeqInput.wait_in_off h (Bool.eq_false_iff.mpr (mt (State.restores_iff h).mp hp))) rfl

/-! ### The timeouts (R82 to R85, R91, R92, R94; logs 8, 17) -/

section
variable {s : State}

/-- A timeout is due where its state's wait has one period left and the snapshot leaves it standing (R80, R82 to R84, R91, R92). -/
theorem State.timesOut_iff {st : SeqState} (hw : st.waits = true) : s.timesOut st = true
    ↔ s.rstN = true ∧ s.stage = .seq ∧ s.request = none ∧ s.seq.state = st ∧ s.seq.timer = 1
      ∧ s.seqInput.Stands s.seq.syncRun st := by
  by_cases hst : s.seq.state = st
  · subst hst
    rw [SeqInput.stands_iff]
    have hfault : s.seqInput.snap.engineFault = s.snap.engineFault := rfl
    simp only [State.timesOut, Seq.expires, hfault, hw, Bool.and_eq_true, Bool.or_eq_true, beq_iff_eq, Bool.not_eq_true']
    cases s.snap.engineFault <;> simp <;> tauto
  · simp [State.timesOut, hst]

theorem State.timeoutStage_of {st : SeqState} (h : s.timesOut st = true) : s.timeoutStage st = s.seqStage := if_pos h

theorem State.timeoutStage_of_not {st : SeqState} (h : ¬ s.timesOut st = true) : s.timeoutStage st = s := if_neg h

theorem State.hitNotices_append : s.hitNotices ++ unavailableNotice s.hitSeq = unavailableNotice s.seq := by
  by_cases hf : s.snap.engine.state = .fault
  · rw [State.hitNotices_of_fault hf, State.hitSeq_of_fault hf]
    simp [unavailableNotice, Seq.lose]
  · rw [State.hitNotices_of_calm hf, State.hitSeq_of_calm hf, List.nil_append]

/-- A reason recorded after a FAULT's is the one that stands (R94; log 17). -/
theorem State.hitSeq_lose (why : LastReason) : s.hitSeq.lose why = s.seq.lose why := by
  unfold State.hitSeq
  split_ifs <;> rfl

theorem State.hitSeq_tick_lose (why : LastReason) : s.hitSeq.tick.lose why = s.seq.tick.lose why := by
  rw [Seq.tick_eq, Seq.tick_eq, State.hitSeq_timer, State.hitSeq_spent]
  unfold State.hitSeq
  split_ifs <;> rfl

end

/-- The last period of a wait, after which its start fails (R80, R85). -/
theorem Seq.tick_failStep (c : CalSet) (why : LastReason) (q : Seq) : q.tick.failStep c why =
    ⟨Seq.enter c (if q.state = .clutchWait then .clutchRelease else .offWait)
      { q with lastReason := why, attempts := min (c.retryLimit + 1) (q.attempts + 1), failurePending := true },
      [.startFailed], .startShutDown⟩ := by
  rw [Seq.tick_eq]
  rfl

/-- Settles O39: the command is SEQ's stage where the wait times out, and nothing elsewhere. -/
theorem waitsTimeOut : Obligations.WaitsTimeOut := by
  refine ⟨fun s hr hs hq ha ht hstands => ?_, fun c st s hc hn => ?_⟩
  · obtain ⟨hw, hp, hfault⟩ := (SeqInput.stands_iff _ _).mp hstands
    have hdue (st : SeqState) (h : s.seq.state = st) : s.timeoutStage st = s.seqStage :=
      State.timeoutStage_of ((State.timesOut_iff (h ▸ hw)).mpr ⟨hr, hs, hq, h, ht, h ▸ hstands⟩)
    have starts (h : s.seq.state.starts = true) := State.seqStage_does hr hs
      ((State.seqOut_calm ha hq (fun hf => by
          obtain hx | hx := hfault (State.engineFault_iff.mpr hf.1) <;> rw [hx] at h <;> cases h)).trans
        ((SeqInput.wait_start_fails h hp ht).trans (Seq.tick_failStep _ _ _))) rfl
    refine ⟨fun h => ?_, fun h => ?_, fun h => ?_, fun h => ?_, fun h => ?_⟩
    · have hfails := starts (by rw [h]; rfl)
      rw [h] at hfails
      exact ⟨_, congrArg Host.Outcome.next (hdue _ h), rfl, hfails⟩
    · have hfails := starts (by rw [h]; rfl)
      rw [h] at hfails
      exact ⟨_, congrArg Host.Outcome.next (hdue _ h), rfl, hfails⟩
    · have hfails := starts (by rw [h]; rfl)
      rw [h] at hfails
      exact ⟨_, congrArg Host.Outcome.next (hdue _ h), rfl, hfails⟩
    · have hout : s.seqOut = ⟨s.seq.tick.lose .releaseTimeout, unavailableNotice s.seq, .releaseTimeout⟩ := by
        rw [State.seqOut_stop ha hq (.inl h), SeqInput.wait_release_fails (by simpa using h) (s.hitSeq_progresses.trans hp) (by simpa using ht),
          State.hitNotices_append, State.hitSeq_tick_lose]
      rw [Seq.tick_eq, ht] at hout
      exact ⟨_, congrArg Host.Outcome.next (hdue _ h), rfl, State.seqStage_does hr hs hout rfl⟩
    · have hout : s.seqOut = ⟨{ (s.seq.lose .offTimeout).enter s.cal.active .off with failurePending := false },
          unavailableNotice s.seq, .stopComplete⟩ := by
        rw [State.seqOut_stop ha hq (.inr h), SeqInput.wait_off_fails (by simpa using h) (s.hitSeq_progresses.trans hp) (by simpa using ht),
          State.hitSeq_lose, Seq.reachOff_plain _ (.inr rfl), List.append_nil, State.hitNotices_append]
        rfl
      exact ⟨_, congrArg Host.Outcome.next (hdue _ h), rfl, State.seqStage_does hr hs hout (ModeCtl.settle_stopComplete_eq _ _ _)⟩
  · simp only [List.mem_cons, Prod.mk.injEq, List.not_mem_nil, or_false] at hc
    obtain ⟨rfl, rfl⟩ | ⟨rfl, rfl⟩ | ⟨rfl, rfl⟩ | ⟨rfl, rfl⟩ | ⟨rfl, rfl⟩ := hc
    all_goals exact congrArg Host.Outcome.next (State.timeoutStage_of_not (mt (State.timesOut_iff rfl).mp hn))

end Sys2Proof.Machine
end

section
/-! SUPPORT. SEQ under a request and under a FAULT, and how long a wait lasts (R80, R81, R88, R93 to R96). -/

namespace Sys2Proof.Machine

/-! ### A FAULT (R93) -/

section
variable {i j : SeqInput} {q : Seq}

/-- A stop's wait that an engine already lost has decided raises nothing more and leaves the engine lost (R94). -/
theorem SeqInput.wait_lost (hs : q.state = .clutchRelease ∨ q.state = .offWait) (ha : q.avail = .unavailable) :
    (i.wait q).notices = [] ∧ (i.wait q).seq.avail = .unavailable := by
  have hnone : unavailableNotice q = [] := if_pos ha
  cases hp : i.progresses q with
  | true =>
    obtain h | h := hs
    · rw [SeqInput.wait_released h hp]
      exact ⟨rfl, ha⟩
    · rw [SeqInput.wait_off h (by simpa [SeqInput.progresses, h] using hp), Seq.reachOff_plain _ (.inr ha)]
      exact ⟨rfl, ha⟩
  | false =>
    by_cases ht : q.timer = 1
    · obtain h | h := hs
      · rw [SeqInput.wait_release_fails h hp ht]
        exact ⟨hnone, rfl⟩
      · rw [SeqInput.wait_off_fails h hp ht, Seq.reachOff_plain _ (.inr rfl), hnone]
        exact ⟨rfl, rfl⟩
    · rw [SeqInput.wait_stands (by obtain h | h := hs <;> simp [h, SeqState.waits]) hp ht]
      exact ⟨rfl, ha⟩

/-- A stop's wait depends on the clutch, the engine source's state and whether the engine reads OFF, and on nothing else of the
snapshot (R90, R92). -/
theorem SeqInput.wait_congr (hs : q.state = .clutchRelease ∨ q.state = .offWait) (hcal : j.cal = i.cal)
    (hclutch : j.snap.engine.clutch = i.snap.engine.clutch) (hstate : j.snap.state = i.snap.state)
    (hoff : j.snap.engine.state = .off ↔ i.snap.engine.state = .off) : j.wait q = i.wait q := by
  have hp : j.progresses q = i.progresses q := by
    unfold SeqInput.progresses Snapshot.alive
    obtain h | h := hs
    · simp only [h, hclutch, hstate]
    · simp only [h]
      exact Bool.eq_iff_iff.mpr (by simpa using hoff)
  unfold SeqInput.wait
  obtain h | h := hs <;> simp only [h, hp, hcal]

theorem SeqInput.faulted_start (hs : q.state.starts = true) : i.faulted q = q.failStep i.cal .fault := by
  unfold SeqInput.faulted
  cases hq : q.state <;> first | rfl | exact absurd (hq ▸ hs) (by decide)

theorem SeqInput.faulted_engaged (hs : q.state = .coupled ∨ q.state = .unload) : i.faulted q = q.advance i.cal .clutchRelease := by
  obtain h | h := hs <;> simp [SeqInput.faulted, h]

end

/-- The parts of what SEQ's stage leaves, from the step it makes. -/
theorem State.seqStage_parts {s : State} (hr : s.rstN = true) (hs : s.stage = .seq) {now : Seq} {notices : List NoticeKind}
    {outcome : SeqOutcome} (h : s.seqOut = ⟨now, notices, outcome⟩) :
    s.seqStage.seq = now ∧ Raised notices s s.seqStage
      ∧ s.seqStage.modeCtl = s.modeCtl.settle s.cal.active s.snap.battery.soc outcome := by
  have hraised := State.seqStage_raised hr hs
  rw [State.seqStage_seq hr hs, State.seqStage_modeCtl hr hs, h]
  rw [h] at hraised
  exact ⟨rfl, hraised, rfl⟩

/-- The state with the engine lost to a FAULT beforehand and another reading in its place (R93). -/
def State.lostReading (read : EngineState) (s : State) : State :=
  { s with seq := s.seq.lose .fault, snap := { s.snap with engine := { s.snap.engine with state := read } } }

/-- CRANKING or RUNNING in place of the FAULT leaves a stop's wait the same (R93). -/
theorem State.lostReading_seqOut {s : State} {read : EngineState} (hq : s.request = none)
    (h : s.seq.state = .clutchRelease ∨ s.seq.state = .offWait) (hf : s.snap.engine.state = .fault)
    (hread : read = .cranking ∨ read = .running) : (s.lostReading read).seqOut = s.seqInput.wait (s.seq.lose .fault) := by
  have hfault : read ≠ .fault := by obtain rfl | rfl := hread <;> decide
  have hoff : read ≠ .off := by obtain rfl | rfl := hread <;> decide
  rw [State.seqOut_calm (s := s.lostReading read) (fun hc => nomatch hc) hq fun hx => hfault hx.1]
  exact SeqInput.wait_congr h rfl rfl rfl (iff_of_false hoff fun hx => nomatch hf.symm.trans hx)

/-- Settles O36: the FAULT takes the engine away, and decides in every state but the two of a stop that has begun, and OFF. -/
theorem faultMovesTheSequencer : Obligations.FaultMovesTheSequencer := by
  intro s hr hs ha hq hf
  have fails (h : s.seq.state.starts = true) : s.seqOut =
      ⟨(s.seq.lose .fault).fail s.cal.active .fault, unavailableNotice s.seq ++ [.startFailed], .startShutDown⟩ := by
    rw [State.seqOut_faulted ha hq hf (fun ho => by rw [ho] at h; cases h), SeqInput.faulted_start (q := s.seq.lose .fault) h]
    rfl
  refine ⟨_, rfl, State.seqStage_fields hr hs, fun h => ?_, fun h => ?_, fun h => ?_, fun h => ?_, fun h => ?_⟩
  · have hparts := State.seqStage_parts hr hs (fails (by obtain h | h := h <;> rw [h] <;> rfl))
    have hne : (s.seq.lose .fault).state ≠ .clutchWait := by obtain h | h := h <;> simp [h]
    rw [Seq.fail, if_neg hne] at hparts
    exact hparts
  · have hparts := State.seqStage_parts hr hs (fails (by rw [h]; rfl))
    rw [Seq.fail, if_pos (by exact h)] at hparts
    exact hparts
  · refine State.seqStage_parts hr hs (outcome := .progress) ?_
    rw [State.seqOut_faulted ha hq hf (by obtain h | h := h <;> simp [h]), SeqInput.faulted_engaged (q := s.seq.lose .fault) h]
    simp [Seq.advance, Seq.enter, Seq.lose, timeoutRow, unavailableNotice, State.seqInput]
  · refine State.seqStage_parts hr hs (outcome := .none) ?_
    rw [State.seqOut_calm ha hq fun hx => hx.2 h, SeqInput.wait_in_off h (Bool.eq_false_iff.mpr fun hx => ?_)]
    · rfl
    · exact nomatch hf.symm.trans ((State.restores_iff h).mp hx).2.2.1
  · have hne : s.seq.state ≠ .off := by obtain h | h := h <;> simp [h]
    obtain ⟨hnotices, hlost⟩ := SeqInput.wait_lost (i := s.seqInput) (q := s.seq.lose .fault) h rfl
    have hout : s.seqOut = ⟨(s.seqInput.wait (s.seq.lose .fault)).seq, unavailableNotice s.seq,
        (s.seqInput.wait (s.seq.lose .fault)).outcome⟩ := by
      rw [State.seqOut_stop ha hq h, State.hitSeq_of_fault hf, State.hitNotices_of_fault hf, hnotices, List.append_nil]
    obtain ⟨hseq, hraised, hctl⟩ := State.seqStage_parts hr hs hout
    refine ⟨by rw [hseq, hlost], hraised, fun read hread => ⟨_, rfl, ?_⟩⟩
    have hcalm := State.lostReading_seqOut hq h hf hread
    have hfirst := (State.seqStage_does hr hs hout rfl).2
    have hsecond := (State.seqStage_does (s := s.lostReading read) hr hs hcalm rfl).2
    show s.seqStage = { (s.lostReading read).seqStage with ntc := s.seqStage.ntc, snap := s.snap }
    rw [hsecond]
    exact hfirst

/-! ### Requests (R81, R88) -/

/-- A FAULT reaches the sequencer (R93). -/
def State.struck (s : State) : Bool := s.snap.engine.state = .fault ∧ s.seq.state ≠ .off

/-- The sequencer as a request finds it: the engine UNAVAILABLE where a FAULT reaches it (R93). -/
def State.struckSeq (s : State) : Seq :=
  { s.seq with avail := if s.struck then .unavailable else s.seq.avail
               lastReason := if s.struck then .fault else s.seq.lastReason }

/-- The notices of that (R94). -/
def State.struckNotices (s : State) : List NoticeKind :=
  if s.struck ∧ s.seq.avail ≠ .unavailable then [.engineUnavailable] else []

section
variable {s : State}

theorem State.struck_eq : s.seqInput.faultReaches s.seq = s.struck :=
  Bool.eq_iff_iff.mpr (SeqInput.faultReaches_iff.trans (decide_eq_true_iff).symm)

theorem State.prepared_eq (ha : s.seq.avail ≠ .cooling) : s.seqInput.prepared s.seq = s.struckSeq := by
  unfold SeqInput.prepared State.struckSeq
  rw [State.struck_eq, Seq.Noted.cool_avail_ne ha]
  cases s.struck <;> rfl

theorem State.faultNotices_eq (ha : s.seq.avail ≠ .cooling) : s.seqInput.faultNotices s.seq = s.struckNotices := by
  unfold SeqInput.faultNotices State.struckNotices unavailableNotice
  rw [State.struck_eq, Seq.Noted.cool_avail_ne ha]
  cases s.struck <;> by_cases h : s.seq.avail = .unavailable <;> simp [h]

/-- A request that the sequencer takes. -/
theorem State.seqStage_takes (hr : s.rstN = true) (hs : s.stage = .seq) (ha : s.seq.avail ≠ .cooling) {r : Request}
    (hq : s.request = some r) {now : SeqState} {notices : List NoticeKind}
    (h : s.struckSeq.obey s.cal.active r = ⟨s.struckSeq.enter s.cal.active now, notices, .progress⟩) :
    s.seqStage.seq = s.struckSeq.enter s.cal.active now
      ∧ Raised (s.struckNotices ++ notices) s s.seqStage
      ∧ s.seqStage = { s with seq := s.seqStage.seq, request := none, stage := .split, ntc := s.seqStage.ntc } := by
  have hout : s.seqOut = ⟨s.struckSeq.enter s.cal.active now, s.struckNotices ++ notices, .progress⟩ := by
    unfold State.seqOut
    rw [hq, SeqInput.step_some, State.prepared_eq ha, State.faultNotices_eq ha]
    show ({ s.struckSeq.obey s.cal.active r with
      notices := s.struckNotices ++ (s.struckSeq.obey s.cal.active r).notices } : SeqStep) = _
    rw [h]
  obtain ⟨hraised, hstage⟩ := State.seqStage_does hr hs hout rfl
  have hseq : s.seqStage.seq = s.struckSeq.enter s.cal.active now := (State.seqStage_parts hr hs hout).1
  rw [← hseq] at hstage
  exact ⟨hseq, hraised, hstage⟩

end

/-- Settles O35: each request in the table's state is a change of state, obeyed with the FAULT's effect already taken. -/
theorem sequencerTakesRequests : Obligations.SequencerTakesRequests := by
  intro s hr hs ha
  have takes {r : Request} {now : SeqState} {notices : List NoticeKind}
      (h : s.struckSeq.obey s.cal.active r = ⟨s.struckSeq.enter s.cal.active now, notices, .progress⟩) (hq : s.request = some r) :=
    State.seqStage_takes hr hs ha hq h
  have hstate : s.struckSeq.state = s.seq.state := rfl
  refine ⟨_, rfl, fun h => takes ?_, fun h => takes ?_, fun h => takes ?_, fun h => ⟨takes ?_, takes ?_⟩, fun h => takes ?_⟩
  · simp [Seq.obey, hstate, h, Seq.advance]
  · obtain h | h := h <;> simp [Seq.obey, hstate, h, Seq.advance]
  · simp [Seq.obey, hstate, h, Seq.advance]
  · simp [Seq.obey, hstate, h, Seq.advance]
  · simp [Seq.obey, hstate, h, Seq.advance]
  · simp [Seq.obey, hstate, h, Seq.advance]

end Sys2Proof.Machine
end

section
/-! SUPPORT. How many snapshots a wait judges (R80, R96; log 23). -/

namespace Sys2Proof.Machine

/-! ### One snapshot that leaves a wait standing -/

section
variable {i : SeqInput} {q : Seq}

/-- Only SPEED_SYNC reads its run (R83). -/
theorem SeqInput.stands_run {st : SeqState} (h : st ≠ .speedSync) (a b : Nat) : i.Stands a st ↔ i.Stands b st := by
  cases st <;> first | exact Iff.rfl | exact absurd rfl h

/-- Where a snapshot leaves a wait standing the wait decides, a FAULT having changed the availability at most (R93). -/
theorem SeqInput.step_of_stands (ha : q.avail ≠ .cooling) (h : i.Stands q.syncRun q.state) :
    ∃ p, (p = q ∨ p = q.lose .fault) ∧ i.progresses p = false ∧ (i.step none q).seq = (i.wait p).seq := by
  obtain ⟨hw, hp, hfault⟩ := (SeqInput.stands_iff i q).mp h
  by_cases hf : i.snap.engine.state = .fault
  · have hstop := hfault (by simp [Snapshot.engineFault, hf])
    refine ⟨q.lose .fault, .inr rfl, hp, ?_⟩
    rw [SeqInput.step_faulted ha hf (by obtain h | h := hstop <;> simp [h])]
    unfold SeqInput.faulted
    obtain h | h := hstop <;> simp [h]
  · exact ⟨q, .inl rfl, hp, by rw [SeqInput.step_calm ha fun hx => hf hx.1]⟩

/-- With more than one period left the wait goes on (R80). -/
theorem SeqInput.step_stands (ha : q.avail ≠ .cooling) (h : i.Stands q.syncRun q.state) (ht : 1 < q.timer) :
    (i.step none q).seq.state = q.state ∧ (i.step none q).seq.timer = q.timer - 1 ∧ (i.step none q).seq.spent = q.spent + 1
      ∧ (i.step none q).seq.avail ≠ .cooling
      ∧ (q.state = .speedSync → (i.step none q).seq.syncRun = i.runNow q.syncRun) := by
  have hw := ((SeqInput.stands_iff i q).mp h).1
  obtain ⟨p, hpq, hp, hstep⟩ := SeqInput.step_of_stands ha h
  rw [hstep, SeqInput.runNow_eq]
  obtain rfl | rfl := hpq
  · rw [SeqInput.wait_stands hw hp (by omega)]
    refine ⟨rfl, rfl, if_neg (by omega), ha, fun hs => if_pos hs⟩
  · rw [SeqInput.wait_stands (by exact hw) hp (by show q.timer ≠ 1; omega)]
    refine ⟨rfl, rfl, if_neg (by show q.timer ≠ 0; omega), (fun hc => nomatch hc), fun hs => if_pos hs⟩

/-- Where a wait's timeout leads (R82 to R85, R91, R92). -/
def SeqState.afterTimeout : SeqState → SeqState
  | .crankWait => .offWait
  | .speedSync => .offWait
  | .clutchWait => .clutchRelease
  | .clutchRelease => .clutchRelease
  | .offWait => .off
  | .off => .off
  | .coupled => .coupled
  | .unload => .unload

/-- The last period of a wait ends it (R80). -/
theorem SeqInput.step_times_out (ha : q.avail ≠ .cooling) (h : i.Stands q.syncRun q.state) (ht : q.timer = 1) :
    (i.step none q).seq.state = q.state.afterTimeout ∧ (i.step none q).seq.lastReason = q.state.timeoutReason
      ∧ (q.state = .clutchRelease → (i.step none q).seq.timer = 0) := by
  have hw := ((SeqInput.stands_iff i q).mp h).1
  obtain ⟨p, hpq, hp, hstep⟩ := SeqInput.step_of_stands ha h
  have hstate : p.state = q.state := by obtain rfl | rfl := hpq <;> rfl
  have htimer : p.timer = 1 := by obtain rfl | rfl := hpq <;> exact ht
  rw [hstep, ← hstate]
  rw [← hstate] at hw
  cases hq : p.state with
  | clutchRelease =>
    rw [SeqInput.wait_release_fails hq hp htimer, Seq.tick_eq, htimer]
    exact ⟨hq, rfl, fun _ => rfl⟩
  | offWait =>
    rw [SeqInput.wait_off_fails hq hp htimer, Seq.reachOff_plain _ (.inr rfl)]
    exact ⟨rfl, rfl, (fun h => nomatch h)⟩
  | crankWait =>
    rw [SeqInput.wait_start_fails (by rw [hq]; rfl) hp htimer, Seq.tick_failStep, hq]
    exact ⟨rfl, rfl, (fun h => nomatch h)⟩
  | speedSync =>
    rw [SeqInput.wait_start_fails (by rw [hq]; rfl) hp htimer, Seq.tick_failStep, hq]
    exact ⟨rfl, rfl, (fun h => nomatch h)⟩
  | clutchWait =>
    rw [SeqInput.wait_start_fails (by rw [hq]; rfl) hp htimer, Seq.tick_failStep, hq]
    exact ⟨rfl, rfl, (fun h => nomatch h)⟩
  | off => rw [hq] at hw; cases hw
  | coupled => rw [hq] at hw; cases hw
  | unload => rw [hq] at hw; cases hw

end

/-! ### As many snapshots as the timer says -/

/-- Each of these snapshots leaves the wait of a state standing, the run counted on from `run` (R83). -/
def StandThrough (st : SeqState) : Nat → List SeqInput → Prop
  | _, [] => True
  | run, i :: l => i.Stands run st ∧ StandThrough st (i.runNow run) l

theorem standThrough_of_forall {st : SeqState} {l : List SeqInput} {run : Nat}
    (h : ∀ (m : Nat) (i : SeqInput), l[m]? = some i → i.Stands ((l.take m).foldl (fun run j => j.runNow run) run) st) :
    StandThrough st run l := by
  induction l generalizing run with
  | nil => trivial
  | cons i l ih => exact ⟨h 0 i rfl, ih fun m j hj => h (m + 1) j hj⟩

theorem standThrough_run {st : SeqState} (h : st ≠ .speedSync) {l : List SeqInput} {a : Nat} (b : Nat)
    (hl : StandThrough st a l) : StandThrough st b l := by
  induction l generalizing a b with
  | nil => trivial
  | cons i l ih => exact ⟨(SeqInput.stands_run h a b).mp hl.1, ih _ hl.2⟩

/-- SEQ after these snapshots without a request. -/
def Seq.judge (l : List SeqInput) (q : Seq) : Seq := l.foldl (fun q i => (i.step none q).seq) q

section
variable {q : Seq} {l : List SeqInput}

/-- What is left to judge after the first snapshot. -/
theorem standThrough_step {i : SeqInput} (ha : q.avail ≠ .cooling) (ht : 1 < q.timer)
    (hl : StandThrough q.state q.syncRun (i :: l)) :
    StandThrough (i.step none q).seq.state (i.step none q).seq.syncRun l := by
  obtain ⟨hstate, -, -, -, hrun⟩ := SeqInput.step_stands ha hl.1 ht
  rw [hstate]
  by_cases hs : q.state = .speedSync
  · rw [hrun hs]
    exact hl.2
  · exact standThrough_run hs _ hl.2

theorem Seq.judge_short (ha : q.avail ≠ .cooling) (hl : StandThrough q.state q.syncRun l) (ht : l.length < q.timer) :
    (q.judge l).state = q.state ∧ (q.judge l).timer = q.timer - l.length ∧ (q.judge l).spent = q.spent + l.length := by
  induction l generalizing q with
  | nil => exact ⟨rfl, rfl, rfl⟩
  | cons i l ih =>
    rw [List.length_cons] at ht
    obtain ⟨hstate, htimer, hspent, hav, -⟩ := SeqInput.step_stands ha hl.1 (by omega)
    obtain ⟨h1, h2, h3⟩ := ih hav (standThrough_step ha (by omega) hl) (by omega)
    rw [hstate] at h1
    rw [List.length_cons]
    exact ⟨h1, by rw [Seq.judge, List.foldl_cons]; exact h2.trans (by omega), by
      rw [Seq.judge, List.foldl_cons]; exact h3.trans (by omega)⟩

theorem Seq.judge_full (ha : q.avail ≠ .cooling) (hl : StandThrough q.state q.syncRun l) (hpos : 0 < q.timer)
    (ht : l.length = q.timer) :
    (q.judge l).state = q.state.afterTimeout ∧ (q.judge l).lastReason = q.state.timeoutReason
      ∧ (q.state = .clutchRelease → (q.judge l).timer = 0) := by
  induction l generalizing q with
  | nil => exact absurd ht (by simp; omega)
  | cons i l ih =>
    rw [List.length_cons] at ht
    by_cases hlast : q.timer = 1
    · have hnil : l = [] := List.length_eq_zero_iff.mp (by omega)
      subst hnil
      exact SeqInput.step_times_out ha hl.1 hlast
    · obtain ⟨hstate, htimer, -, hav, -⟩ := SeqInput.step_stands ha hl.1 (by omega)
      have hrest := ih hav (standThrough_step ha (by omega) hl) (by omega) (by omega)
      rw [hstate] at hrest
      exact hrest

end

/-- The timer of a running wait when a set is applied (R96, R156; log 23). -/
theorem lowerTimer_eq (old row spent : Nat) {timer : Nat} (ht : 0 < timer) : lowerTimer old row spent timer =
    if row = old then timer else if row < old ∧ row < spent then 1 else min timer row := by
  unfold lowerTimer lowerChanged
  split_ifs <;> omega

/-- Settles O41: a snapshot that leaves the wait standing takes one period, and the last period ends it. -/
theorem aWaitLastsItsTimeout : Obligations.AWaitLastsItsTimeout := by
  intro q applied l ha ht hvalid hstand hwait
  have hthrough := standThrough_of_forall hstand
  have hmain (begun : Seq) (wait : Nat) (hb : begun.state = q.state) (hbt : begun.timer = wait) (hpos : 0 < wait)
      (hspent : begun.spent = q.spent) (hrun : begun.syncRun = q.syncRun) (hav : begun.avail ≠ .cooling) :
      (l.length < wait → (begun.judge l).state = q.state ∧ (begun.judge l).timer = wait - l.length
        ∧ (begun.judge l).spent = q.spent + l.length)
      ∧ (l.length = wait →
        (q.state = .crankWait → (begun.judge l).state = .offWait ∧ (begun.judge l).lastReason = .crankTimeout)
        ∧ (q.state = .speedSync → (begun.judge l).state = .offWait ∧ (begun.judge l).lastReason = .syncTimeout)
        ∧ (q.state = .clutchWait → (begun.judge l).state = .clutchRelease ∧ (begun.judge l).lastReason = .clutchTimeout)
        ∧ (q.state = .clutchRelease → (begun.judge l).state = .clutchRelease ∧ (begun.judge l).timer = 0
          ∧ (begun.judge l).lastReason = .releaseTimeout)
        ∧ (q.state = .offWait → (begun.judge l).state = .off ∧ (begun.judge l).lastReason = .offTimeout)) := by
    subst hbt
    rw [← hspent, ← hb]
    rw [← hb, ← hrun] at hthrough
    refine ⟨fun h => Seq.judge_short hav hthrough h, fun h => ?_⟩
    obtain ⟨hstate, hreason, htimer⟩ := Seq.judge_full hav hthrough hpos h
    refine ⟨fun hs => ?_, fun hs => ?_, fun hs => ?_, fun hs => ?_, fun hs => ?_⟩ <;> rw [hs] at hstate hreason
    · exact ⟨hstate, hreason⟩
    · exact ⟨hstate, hreason⟩
    · exact ⟨hstate, hreason⟩
    · exact ⟨hstate, htimer hs, hreason⟩
    · exact ⟨hstate, hreason⟩
  cases applied with
  | none => exact hmain q q.timer rfl rfl ht rfl rfl ha
  | some c =>
    have hrow := lowerTimer_eq (timeoutRow c.1 q.state) (timeoutRow c.2 q.state) q.spent ht
    have hw : q.state.waits = true := by
      revert hwait
      cases q.state <;> decide
    have hpos : 0 < timeoutRow c.2 q.state := Nat.lt_of_lt_of_le (by decide) (timeoutRow_between (hvalid c rfl) hw).1
    dsimp only
    rw [CalSet.timeoutOf_eq, CalSet.timeoutOf_eq, ← hrow]
    exact hmain (q.adjust c.1 c.2) _ rfl rfl (lowerTimer_pos hpos ht _ _) rfl rfl ha

end Sys2Proof.Machine
end

section
/-! SUPPORT. What a boundary makes of a pending commit (R16, R43, R96, R153 to R156). -/

namespace Sys2Proof.Machine

section
variable {s : State} {c : Claim}

theorem State.settleCommit_waits (h : ∀ c, s.cal.claim = some c → c.pending = false) : s.settleCommit = s := by
  unfold State.settleCommit
  split
  · next c hc => rw [if_neg (by simp [h c hc])]
  · rfl

theorem State.settleCommit_rejects (hc : s.cal.claim = some c) (hp : c.pending = true) (hv : c.staging.validate ≠ .none) :
    s.settleCommit = s.rejectCommit c c.staging.validate := by simp [State.settleCommit, hc, hp, hv]

theorem State.settleCommit_applies (hc : s.cal.claim = some c) (hp : c.pending = true) (hv : c.staging.validate = .none) :
    s.settleCommit = s.applyCommit c := by simp [State.settleCommit, hc, hp, hv]

end

/-- The hold counter under a new set (R16). -/
theorem SourceCtl.lowerHold_eq (h : Nat) (c : SourceCtl) :
    c.lowerHold h = { c with hold := if c.state = .aged then min c.hold h else c.hold } := by
  unfold SourceCtl.lowerHold
  split_ifs <;> rfl

/-! ### The sequencer under a new set (R96, R156; log 23) -/

section
variable (old new : CalSet) (q : Seq)

theorem Seq.adjust_eq : q.adjust old new =
    { q with timer := (q.adjust old new).timer
             coolOff := if new.coolOff = old.coolOff then q.coolOff else min q.coolOff new.coolOff
             attempts := if new.retryLimit = old.retryLimit then q.attempts else min q.attempts (new.retryLimit + 1) } := by
  simp [Seq.adjust, lowerChanged]

/-- A timer at 0 does not run, and a state that is no wait has no row. -/
theorem Seq.adjust_timer_of_idle (h : q.timer = 0 ∨ q.state ∈ [.off, .coupled, .unload]) : (q.adjust old new).timer = q.timer := by
  show lowerTimer _ _ _ _ = _
  obtain h | h := h
  · unfold lowerTimer lowerChanged
    split_ifs <;> omega
  · have hrow (c : CalSet) : timeoutRow c q.state = 0 := by
      simp only [List.mem_cons, List.not_mem_nil, or_false] at h
      obtain h | h | h := h <;> rw [h] <;> rfl
    rw [hrow, hrow, lowerTimer_same]

/-- A running timer under a set that changes its row, or keeps it. -/
theorem Seq.adjust_timer_cases {was row : Nat} (hwas : timeoutRow old q.state = was) (hrow : timeoutRow new q.state = row)
    (ht : 0 < q.timer) :
    (row = was → (q.adjust old new).timer = q.timer)
      ∧ (row < was → row < q.spent → (q.adjust old new).timer = 1)
      ∧ (row < was → q.spent ≤ row → (q.adjust old new).timer = min q.timer row)
      ∧ (was < row → (q.adjust old new).timer = min q.timer row) := by
  have htimer : (q.adjust old new).timer = lowerTimer was row q.spent q.timer := by rw [← hwas, ← hrow]; rfl
  rw [htimer, lowerTimer_eq _ _ _ ht]
  refine ⟨fun h => if_pos h, fun h hs => ?_, fun h hs => ?_, fun h => ?_⟩
  · rw [if_neg (by omega), if_pos ⟨h, hs⟩]
  · rw [if_neg (by omega), if_neg (by omega)]
  · rw [if_neg (by omega), if_neg (by omega)]

end

/-! ### The edge filter under a new set (R43) -/

section
variable {old new : CalSet} {pin : Bool} {u : Spd}

theorem Spd.adjust_kept (h : ¬ (old.rejectorOn = true ∧ ¬ new.rejectorOn = true)) : u.adjust old new pin = u := by
  unfold Spd.adjust
  rw [if_neg (by simpa using h)]

theorem Spd.adjust_same (h : old.rejectorOn = true ∧ ¬ new.rejectorOn = true) (hp : pin = u.filtered) :
    u.adjust old new pin = { u with candidate := 0 } := by simp [Spd.adjust, h, hp]

theorem Spd.adjust_edge (h : old.rejectorOn = true ∧ ¬ new.rejectorOn = true) (hp : pin ≠ u.filtered) :
    u.adjust old new pin = u.edge new.countsRising pin := by simp [Spd.adjust, h, hp]

/-- The polarity that an edge is counted by (R40, R143). -/
theorem CalSet.counts_iff (c : CalSet) (level : Bool) : (level == c.countsRising) = true
    ↔ if level then c.pulseOptions = 1 ∨ c.pulseOptions = 3 else ¬ (c.pulseOptions = 1 ∨ c.pulseOptions = 3) := by
  rw [← CalSet.countsRising_iff]
  cases level <;> cases c.countsRising <;> simp

theorem Spd.edge_of_counted (h : (pin == new.countsRising) = true) :
    u.edge new.countsRising pin = { u with filtered := pin, candidate := 0, count := min 255 (u.count + 1) } := by
  unfold Spd.edge
  rw [if_pos h]

theorem Spd.edge_of_uncounted (h : ¬ (pin == new.countsRising) = true) :
    u.edge new.countsRising pin = { u with filtered := pin, candidate := 0 } := by
  unfold Spd.edge
  rw [if_neg h]

end

/-- Settles O50, from the three ways of settling a commit and what a new set adjusts. -/
theorem periodBoundarySettlesTheCommit : Obligations.PeriodBoundarySettlesTheCommit := by
  intro pin s hr hs
  refine ⟨_, congrArg Host.Outcome.next (State.beginPeriod_eq hr hs pin), ?_, fun hc => ?_, fun c hc hp => ⟨fun hv => ?_, fun hv => ?_⟩⟩
  · apply State.ext_fields <;> simp [State.openPeriod, Config.periodReload]
  · rw [State.settleCommit_waits (s := s.openPeriod pin) hc]
    exact ⟨rfl, ⟨rfl, rfl, rfl⟩, Raised.refl _ _ rfl⟩
  · rw [State.settleCommit_rejects (s := s.openPeriod pin) hc hp hv]
    exact ⟨rfl, ⟨rfl, rfl, rfl⟩, (State.rejectCommit_raised c _ _).base rfl rfl⟩
  · rw [State.settleCommit_applies (s := s.openPeriod pin) hc hp hv]
    have hlow {was row : Nat} (hwas : timeoutRow s.cal.active s.seq.state = was) (hrow : timeoutRow c.staging s.seq.state = row) :=
      Seq.adjust_timer_cases s.cal.active c.staging s.seq hwas hrow
    refine ⟨rfl, (State.applyCommit_raised c _).base rfl rfl, fun r => ?_, Seq.adjust_eq _ _ _, Seq.adjust_timer_of_idle _ _ _,
      ⟨fun h => hlow (by rw [h]; rfl) (by rw [h]; rfl), fun h => hlow (by rw [h]; rfl) (by rw [h]; rfl),
        fun h => hlow (by obtain h | h := h <;> rw [h] <;> rfl) (by obtain h | h := h <;> rw [h] <;> rfl),
        fun h => hlow (by rw [h]; rfl) (by rw [h]; rfl)⟩, ?_⟩
    · rw [State.applyCommit_src, PerRole.get_map, SourceCtl.lowerHold_eq]
      rfl
    · rw [State.applyCommit_spd]
      dsimp only
      rw [← CalSet.rejectorOn_iff, ← CalSet.rejectorOn_iff, ← CalSet.counts_iff]
      refine ⟨fun h => Spd.adjust_kept h, fun h hsame => Spd.adjust_same h hsame, fun h hne hcount => ?_, fun h hne hcount => ?_⟩
      · exact (Spd.adjust_edge (u := s.spd.boundary) h hne).trans (Spd.edge_of_counted hcount)
      · exact (Spd.adjust_edge (u := s.spd.boundary) h hne).trans (Spd.edge_of_uncounted hcount)

end Sys2Proof.Machine
end

section
/-! SUPPORT. SPLIT's stage in the rules' own arithmetic, and the publication (R78, R102 to R131). -/

namespace Sys2Proof.Machine

/-! ### Quotients rounded down and up -/

theorem floor_div_eq {b : Int} (hb : 0 ≤ b) (a : Int) : ⌊((a : ℤ) : ℚ) / ((b : ℤ) : ℚ)⌋ = a / b := by
  obtain ⟨n, rfl⟩ := Int.eq_ofNat_of_zero_le hb
  rw [Int.cast_natCast, Rat.floor_intCast_div_natCast]

theorem ceil_div_eq {b : Int} (hb : 0 ≤ b) (a : Int) : ⌈((a : ℤ) : ℚ) / ((b : ℤ) : ℚ)⌉ = ceilDiv a b := by
  obtain ⟨n, rfl⟩ := Int.eq_ofNat_of_zero_le hb
  rw [Int.cast_natCast, Rat.ceil_intCast_div_natCast]
  rfl

/-! ### SPLIT's stage (R105 to R123) -/

section
variable {s : State} (hr : s.rstN = true) (hs : s.stage = .split)
include hr hs

theorem State.splitStage_split :
    s.splitStage.split = (s.split.shortfall s.cal.active.shortfallDwell s.splitInput.out.tu).1 := by
  simp [State.splitStage_eq hr hs]

theorem State.splitStage_splitOut : s.splitStage.splitOut = s.splitInput.out := by simp [State.splitStage_eq hr hs]

/-- SPLIT's stage writes SPLIT and what it hands over, and raises SHORTFALL (R125). -/
theorem State.splitStage_fields : s.splitStage =
    { s with split := s.splitStage.split, splitOut := s.splitStage.splitOut, stage := .publish, ntc := s.splitStage.ntc } := by
  have hstage := State.splitStage_eq hr hs
  apply State.ext_fields <;> simp [hstage]

end

/-- SPLIT reads quantities in their ranges. -/
theorem State.Bounded.splitInput {s : State} (h : s.Bounded) : s.splitInput.InRange where
  snap := h.snap
  nSel := h.nSel
  nEff := ⟨lt_of_lt_of_le (by decide) h.nEff.1.1, h.nEff.2⟩
  eta := CalSet.eta_between h.cal
  decayRamp := h.envCopy.vehicle.2.2.1
  prevTd := by
    show Between _ _ s.split.prevTd
    rw [h.previous.1]
    exact h.record.td

/-- Settles O44, from the bounds of the motor power term. -/
theorem batteryPredictionWithinLimits : Obligations.BatteryPredictionWithinLimits := by
  intro s t hb hr hs he
  cases he
  have h := hb.splitInput
  have heta := SplitInput.eta_pos h
  rw [State.splitStage_splitOut hr hs]
  obtain ⟨hlow, hhigh⟩ := SplitInput.motorTerm_within h
  have hbatt := SplitInput.pBatt_eq h
  refine ⟨fun ht => ?_, fun ht => ?_, hbatt, hlow.trans_eq hbatt.symm, hbatt.trans_le hhigh, SplitInput.motorTerm_between h⟩
  · rw [ceil_div_eq (by positivity)]
    exact if_pos ht
  · rw [ceil_div_eq (by positivity), abs_of_neg ht]
    exact if_neg (not_le.mpr ht)

section
variable {i : SplitInput}

theorem SplitInput.engaged_iff : i.engaged = true ↔ i.seqState = .coupled ∨ i.seqState = .unload := by
  unfold SplitInput.engaged
  cases i.seqState <;> decide

theorem Mode.standing_iff {m : Mode} : m.standing = true ↔ m = .init ∨ m = .parked := by simp [Mode.standing]

/-- A demand as the vehicle source gives it (R105). -/
theorem SplitInput.td_of_driving (h : ¬ (i.mode = .init ∨ i.mode = .parked)) (hs : i.mode ≠ .safe) :
    i.td = i.snap.vehicle.demand := by
  unfold SplitInput.td
  cases hm : i.mode <;> simp_all

theorem SplitInput.td_of_standing (h : i.mode = .init ∨ i.mode = .parked) : i.td = 0 := by
  unfold SplitInput.td
  obtain h | h := h <;> rw [h]

theorem SplitInput.td_of_safe (h : i.mode = .safe) : i.td = decay i.prev.prevTd i.decayRamp := by
  unfold SplitInput.td
  rw [h]

/-- The wish is 0 but in HYBRID and CHARGE (R112). -/
theorem SplitInput.teWant_of_uncoupled (h : i.mode ≠ .hybrid) (hc : i.mode ≠ .charge) : i.teWant = 0 := by
  unfold SplitInput.teWant
  cases hm : i.mode <;> simp_all

theorem SplitInput.teWant_of_hybrid (h : i.mode = .hybrid) : i.teWant = interpolate i.cal.line.toList i.nSel := by
  unfold SplitInput.teWant
  rw [h]

theorem SplitInput.teWant_of_charge (h : i.mode = .charge) :
    i.teWant = interpolate i.cal.line.toList i.nSel + interpolate i.cal.offset.toList i.snap.battery.soc := by
  unfold SplitInput.teWant
  rw [h]

/-- A grant as two clamps, each the larger of its lower end and the smaller of its upper end and the value (R116, R118). -/
theorem grant_eq {ramp lo hi : Int} (hramp : 0 ≤ ramp) (h : lo ≤ hi) (prev share : Int) :
    grant prev ramp lo hi share = max lo (min hi (max (prev - ramp) (min (prev + ramp) share))) := by
  unfold grant
  rw [clamp_eq h, clamp_eq (by omega)]

/-- The engine grant: balance window, ramp window, bounds (R115, R116). -/
theorem SplitInput.te_eq (h : i.InRange) (hramp : 0 ≤ i.rampE) (hm : ¬ (i.mode = .init ∨ i.mode = .parked)) : i.te =
    max i.teLo (min i.teHi (max (i.prev.prevTe - i.rampE) (min (i.prev.prevTe + i.rampE)
      (max (i.td - i.tmHi) (min (i.td - i.tmLo) i.teWant))))) := by
  obtain ⟨hhi, -⟩ := SplitInput.tmHi_between h
  obtain ⟨-, hlo⟩ := SplitInput.tmLo_between h
  obtain ⟨hehi, -⟩ := SplitInput.teHi_between h
  obtain ⟨-, helo⟩ := SplitInput.teLo_between h
  unfold SplitInput.te SplitInput.teBal
  rw [if_neg (mt Mode.standing_iff.mp hm), grant_eq hramp (helo.trans hehi), clamp_eq (by omega)]

/-- The motor grant: ramp window, bounds (R118). -/
theorem SplitInput.tm_eq (h : i.InRange) (hramp : 0 ≤ i.rampM) (hm : ¬ (i.mode = .init ∨ i.mode = .parked)) : i.tm =
    max i.tmLo (min i.tmHi (max (i.prev.prevTm - i.rampM) (min (i.prev.prevTm + i.rampM) (i.td - i.te)))) := by
  obtain ⟨hhi, -⟩ := SplitInput.tmHi_between h
  obtain ⟨-, hlo⟩ := SplitInput.tmLo_between h
  unfold SplitInput.tm
  rw [if_neg (mt Mode.standing_iff.mp hm), grant_eq hramp (hlo.trans hhi)]

end

section
variable {dwell : Nat} {tu : Int} {c : SplitCtl}

theorem SplitCtl.shortfall_met (h : tu = 0) : c.shortfall dwell tu = ({ c with shortfallRun := 0, armed := true }, false) :=
  if_neg (by omega)

theorem SplitCtl.shortfall_raised (h : 0 < tu) (hd : dwell ≤ min 1000 (c.shortfallRun + 1)) (ha : c.armed = true) :
    c.shortfall dwell tu = ({ c with shortfallRun := min 1000 (c.shortfallRun + 1), armed := false }, true) :=
  (if_pos h).trans (if_pos ⟨hd, ha⟩)

theorem SplitCtl.shortfall_counted (h : 0 < tu) (hd : min 1000 (c.shortfallRun + 1) < dwell ∨ c.armed = false) :
    c.shortfall dwell tu = ({ c with shortfallRun := min 1000 (c.shortfallRun + 1) }, false) := by
  refine (if_pos h).trans (if_neg fun ⟨hle, ha⟩ => ?_)
  obtain hd | hd := hd
  · omega
  · rw [ha] at hd
    cases hd

end

/-- Settles O42: each result in the rules' arithmetic, on quantities in their ranges. -/
theorem splitStageSharesTheDemand : Obligations.SplitStageSharesTheDemand := by
  intro s hb hr hs
  have h := hb.splitInput
  have hnEff : 0 ≤ s.spd.nEff := le_of_lt h.nEff.1
  have heta := le_of_lt (SplitInput.eta_pos h)
  have hrampE : 0 ≤ s.splitInput.rampE := hb.envCopy.engine.2.2.1
  have hrampM : 0 ≤ s.splitInput.rampM := hb.envCopy.motor.2.2.1
  have hraised := State.splitStage_raised hr hs
  refine ⟨_, rfl, State.splitStage_fields hr hs, ?_⟩
  rw [State.splitStage_splitOut hr hs, State.splitStage_split hr hs]
  have shares {want : Int} (hw : s.splitInput.teWant = want) (hm : ¬ (s.modeCtl.mode = .init ∨ s.modeCtl.mode = .parked)) := by
    have hte := SplitInput.te_eq h hrampE hm
    rwa [hw] at hte
  refine ⟨fun hm => ?_, fun hm => ?_, SplitInput.td_of_driving (i := s.splitInput), ?_, ?_, fun hq => ?_, fun hq hu => ?_,
    fun hm => ?_, fun hm => ?_, fun hm hh hc => ?_, SplitInput.tm_eq h hrampM, rfl, rfl, rfl, fun ht => ?_, fun ht hd ha => ?_,
    fun ht hd => ?_⟩
  · have hstanding := Mode.standing_iff.mpr hm
    exact ⟨SplitInput.td_of_standing (i := s.splitInput) hm, if_pos hstanding, if_pos hstanding⟩
  · exact (SplitInput.td_of_safe (i := s.splitInput) hm).trans (decay_eq h.decayRamp _)
  · rw [floor_div_eq (by positivity)]
    rfl
  · rw [floor_div_eq (by positivity)]
    rfl
  · have hengaged : s.splitInput.engaged = true := SplitInput.engaged_iff.mpr hq
    exact ⟨if_pos hengaged, if_pos hengaged⟩
  · have hengaged : ¬ s.splitInput.engaged = true := fun he => (SplitInput.engaged_iff.mp he).elim hq hu
    exact ⟨if_neg hengaged, if_neg hengaged⟩
  · exact shares (SplitInput.teWant_of_hybrid hm) (by rw [hm]; decide)
  · exact shares (SplitInput.teWant_of_charge hm) (by rw [hm]; decide)
  · exact shares (SplitInput.teWant_of_uncoupled hh hc) hm
  · rw [SplitCtl.shortfall_met ht] at hraised ⊢
    exact ⟨rfl, hraised⟩
  · rw [SplitCtl.shortfall_raised ht hd ha] at hraised ⊢
    exact ⟨rfl, hraised⟩
  · rw [SplitCtl.shortfall_counted ht hd] at hraised ⊢
    exact ⟨rfl, hraised⟩

/-! ### The publication (R78, R128 to R131) -/

theorem modeChange_iff (old new : SplitRecord) : modeChange old new = true
    ↔ new.mode ≠ old.mode ∨ ((new.mode = .starting ∨ new.mode = .stopping) ∧ new.seqState ≠ old.seqState) := by
  simp [modeChange]

/-- The commands of each sequencer state (R78). -/
theorem SeqState.commands_mem (q : SeqState) : (q, q.engineCmd, q.clutchCmd) ∈
    ([(.off, .off, .opened), (.crankWait, .start, .opened), (.speedSync, .sync, .opened), (.clutchWait, .sync, .close),
      (.coupled, .run, .close), (.unload, .run, .close), (.clutchRelease, .run, .opened), (.offWait, .stop, .opened)] :
      List (SeqState × EngineCmd × ClutchCmd)) := by
  cases q <;> decide

section
variable {s : State} (hr : s.rstN = true) (hs : s.stage = .publish)
include hr hs

theorem State.publishStage_record : s.publishStage.record = s.newRecord := by simp [State.publishStage_eq hr hs]

/-- The publication writes the record, SPLIT's copies and EPOCH, and raises MODE_CHANGED (R102, R129, R131). -/
theorem State.publishStage_fields : s.publishStage =
    { s with record := s.newRecord
             split := { s.split with prevTd := s.newRecord.td, prevTe := s.newRecord.te, prevTm := s.newRecord.tm }
             epochPin := true, epochTimer := Config.epochPulse, stage := .idle, ntc := s.publishStage.ntc } := by
  have hstage := State.publishStage_eq hr hs
  apply State.ext_fields <;> simp [hstage]

end

/-- Settles O45: the record is built from the blocks' fields, and the end of the pulse is the pin and its timer alone. -/
theorem publicationReplacesTheRecord : Obligations.PublicationReplacesTheRecord := by
  intro s hr
  refine ⟨fun hs => ⟨_, rfl, ?_⟩, rfl⟩
  have hraised := State.publishStage_raised hr hs
  rw [State.publishStage_record hr hs]
  refine ⟨State.publishStage_fields hr hs, ?_, rfl, SeqState.commands_mem _, ?_⟩
  · simp [State.newRecord, BitVec.toNat_add]
  · rwa [if_congr (modeChange_iff _ _) rfl rfl] at hraised

end Sys2Proof.Machine
end
